-- ==== Sys2Proof/Word.lean ====
section
/-! DEFINITION. The two word types of SerialFIFO: the command word (R90) and the data byte (R10), and the sparse
byte storage that a slot array is kept in (R22, R60). -/

namespace Sys2Proof

/-- One command word, 16 bits (R90); bit 0 is the least significant bit (R11). -/
abbrev Word := BitVec 16

/-- The data element of every buffer, 8 bits, unsigned (R10). -/
abbrev Byte := BitVec 8

/-- The storage of one slot array (R22): slot index and byte, kept with strictly rising indices. An index that is not
listed holds `none`, the spec's mark for a slot that nothing has written since reset. -/
abbrev Memory := List Host.Cell

end Sys2Proof
end

