-- ==== Sys2Proof/Config.lean ====
section
/-! DEFINITION. The parameters of the step relation (R7, R8, R9, R20) and the free values: the baud table, which no
source gives (R8, I4), and the platform's choice at a boundary (R234, R242, I7, I8, I9). -/

namespace Sys2Proof

/-- The configuration of R7 to R9, less `BAUD_CONFIG`. It is a parameter of the step relation and no command writes it
(R20); log entries 1 and 2 say why a state carries it and which values reset takes. -/
structure Params where
  /-- `K_RX`: the inbound buffer has `2^K_RX` slots. -/
  kRx : Nat
  /-- `K_TX`: the outbound buffer has `2^K_TX` slots. -/
  kTx : Nat
  /-- `K`: the standalone unit has `2^K` slots. -/
  kUnit : Nat
  /-- `ATOMIC_BITS`: the widest index that one access of the target moves indivisibly (R9). -/
  atomicBits : Nat
  /-- `BAUD_RATES`, in selector order (R8). -/
  baudRates : List Nat
deriving DecidableEq, Repr

/-- `NB`, the number of admitted baud rates (R8). -/
def Params.nb (p : Params) : Nat := p.baudRates.length

/-- The value `configure` is given: a divisor and a fractional modulation, held as natural numbers (R32, I17). -/
structure BaudPair where
  divisor : Nat
  modulation : Nat
deriving DecidableEq, Repr, Inhabited

/-- The agents' steps that a platform may choose between at a boundary (R15, R242). -/
inductive Move where
  /-- The next step of `APP`. -/
  | app
  /-- `IRQ` takes the byte-received interrupt with byte `b`, which the environment chose (R232). -/
  | rxEvent (b : Byte)
  /-- `IRQ` takes the transmit-register-empty interrupt. -/
  | txReady
  /-- `ENV` reports that the transmit register has emptied (R233). -/
  | txDone
deriving DecidableEq, Repr, Inhabited

/-- The defaults of R7 and R8: `K = 6` for each buffer and the five rates of the source's example. `ATOMIC_BITS` has no
default; 6 is the least value that R9 admits (DESIGN CHOICE, unsafe, log entry 2). -/
def Config.defaultParams : Params :=
  { kRx := 6, kTx := 6, kUnit := 6, atomicBits := 6, baudRates := [9600, 19200, 38400, 57600, 115200] }

/-- `BAUD_CONFIG` (R8): the divisor and modulation of each selector. `OPEN`: no source gives a value, so this is a free
value and no claim can rest on one (log entry 3). -/
opaque Config.baudConfig : BitVec 4 → BaudPair

/-- The platform's choice at the n-th boundary for which no choice is written down in the state (R234, R242). A free
value: any agent, and any received byte (log entry 5). -/
opaque Config.freeMove : Nat → Move

end Sys2Proof
end

