-- ==== Sys2Proof/Syntax.lean ====
section
/-! DEFINITION. The command set of SerialFIFO (R19, R92): one constructor of `Instr` for each row of the opcode table,
the ports of R106, and a command as it is issued, which is a word or the pseudo-command `WRITE_BUFFER` (R109). -/

namespace Sys2Proof

/-- The eleven commands of the opcode map (R92), each with its operand (R93 to R103). -/
inductive Instr where
  /-- `INIT sel` (R93, R151): `sel` is the four-bit `ARG` field. -/
  | init (sel : BitVec 4)
  /-- `WRITE_BYTE b` (R94, R154). -/
  | writeByte (b : Byte)
  /-- `READ_BYTE` (R95, R156). -/
  | readByte
  /-- `AVAILABLE` (R96, R157). -/
  | available
  /-- `FLUSH_RX` (R97, R158). -/
  | flushRx
  /-- `RX_EVENT b` (R98, R191). -/
  | rxEvent (b : Byte)
  /-- `TX_READY` (R99, R193). -/
  | txReady
  /-- `PUSH b` (R100, R123). -/
  | push (b : Byte)
  /-- `POP` (R101, R124). -/
  | pop
  /-- `AVAIL` (R102, R125). -/
  | avail
  /-- `CLEAR` (R103, R126). -/
  | clear
deriving DecidableEq, Repr

/-- The port a command belongs to (R92, R106). -/
inductive Port where
  /-- The application context. -/
  | app
  /-- The interrupt context. -/
  | irq
  /-- A standalone RingBuffer unit. -/
  | unit
deriving DecidableEq, Repr

/-- The port column of R92. -/
def Instr.port : Instr → Port
  | .init _ => .app
  | .writeByte _ => .app
  | .readByte => .app
  | .available => .app
  | .flushRx => .app
  | .rxEvent _ => .irq
  | .txReady => .irq
  | .push _ => .unit
  | .pop => .unit
  | .avail => .unit
  | .clear => .unit

/-- The mnemonic column of R92 (R19). -/
def Instr.mnemonic : Instr → String
  | .init _ => "INIT"
  | .writeByte _ => "WRITE_BYTE"
  | .readByte => "READ_BYTE"
  | .available => "AVAILABLE"
  | .flushRx => "FLUSH_RX"
  | .rxEvent _ => "RX_EVENT"
  | .txReady => "TX_READY"
  | .push _ => "PUSH"
  | .pop => "POP"
  | .avail => "AVAIL"
  | .clear => "CLEAR"

/-- A command as it is issued: a command word (R90), or the application port's pseudo-command `WRITE_BUFFER`, which has
no word of its own (R92, R109). -/
inductive Command where
  | word (w : Word)
  | writeBuffer (bytes : List Byte)
deriving DecidableEq, Repr

end Sys2Proof
end

