-- ==== Sys2Proof/WellFormed.lean ====
section
/-! DEFINITION. Which instructions and which configurations are well formed. -/

namespace Sys2Proof

/-- An instruction is well formed for `nb` admitted rates: the selector of `INIT` is below `NB` (R93, R104). Every byte
operand is admitted (R94, R98, R100). -/
def Instr.wf (nb : Nat) : Instr → Bool
  | .init sel => decide (sel.toNat < nb)
  | .writeByte _ => true
  | .readByte => true
  | .available => true
  | .flushRx => true
  | .rxEvent _ => true
  | .txReady => true
  | .push _ => true
  | .pop => true
  | .avail => true
  | .clear => true

/-- The configuration check of R7 to R9, the complement of the `BadConfiguration` row of R221: each `K` is at least 1,
both driver indices fit `ATOMIC_BITS`, and there are 1 to 16 rates. -/
def Params.wf (p : Params) : Bool :=
  decide (1 ≤ p.kRx) && decide (1 ≤ p.kTx) && decide (1 ≤ p.kUnit) &&
  decide (p.kRx ≤ p.atomicBits) && decide (p.kTx ≤ p.atomicBits) &&
  decide (1 ≤ p.nb) && decide (p.nb ≤ 16)

end Sys2Proof
end

