-- ==== Sys2Proof/Decode.lean ====
section
/-! DEFINITION. The decoder of 30_encoding.md, total on all words (R111), and after it the encoder and the
match/mask rows of R93 to R103. -/

namespace Sys2Proof

/-- `OP`, `w[15:12]` (R91). -/
def opField (w : Word) : BitVec 4 := w.extractLsb' 12 4

/-- `ARG`, `w[11:8]` (R91). -/
def argField (w : Word) : BitVec 4 := w.extractLsb' 8 4

/-- `DATA`, `w[7:0]` (R91). -/
def dataField (w : Word) : Byte := w.extractLsb' 0 8

/-- Why a word is illegal (R104, R105). -/
inductive Illegal where
  /-- `OP` is `0x0`, `0x6`, `0x7`, `0xA` or `0xB` (R105). -/
  | opcode
  /-- `ARG` must be 0 and is not (R91, R104). -/
  | argNotZero
  /-- `DATA` must be 0 and is not (R91, R104). -/
  | dataNotZero
  /-- The selector of `INIT` is `NB` or more (R104). -/
  | selector
deriving DecidableEq, Repr

/-- What the decoder answers: one of the eleven commands, or `illegal` (R111). -/
inductive Decoded where
  | ok (i : Instr)
  | illegal (why : Illegal)
deriving DecidableEq, Repr

/-- The command, if the decoder answered one. -/
def Decoded.instr? : Decoded → Option Instr
  | .ok i => some i
  | .illegal _ => none

/-- A command with a byte operand: `ARG` must be 0 (R91). -/
def decodeByteForm (w : Word) (f : Byte → Instr) : Decoded :=
  if argField w = 0 then .ok (f (dataField w)) else .illegal .argNotZero

/-- A command with no operand: `ARG` and `DATA` must be 0 (R91). -/
def decodeBareForm (w : Word) (i : Instr) : Decoded :=
  if argField w = 0 then (if dataField w = 0 then .ok i else .illegal .dataNotZero) else .illegal .argNotZero

/-- `INIT`: `DATA` must be 0, and the selector must be below `NB` (R93, R104). -/
def decodeInitForm (nb : Nat) (w : Word) : Decoded :=
  if dataField w = 0 then (if (argField w).toNat < nb then .ok (.init (argField w)) else .illegal .selector)
  else .illegal .dataNotZero

/-- The decoder, for `nb` admitted rates (R92, R104, R105, R111). -/
def decode (nb : Nat) (w : Word) : Decoded :=
  match (opField w).toNat with
  | 0x1 => decodeInitForm nb w
  | 0x2 => decodeByteForm w .writeByte
  | 0x3 => decodeBareForm w .readByte
  | 0x4 => decodeBareForm w .available
  | 0x5 => decodeBareForm w .flushRx
  | 0x8 => decodeByteForm w .rxEvent
  | 0x9 => decodeBareForm w .txReady
  | 0xC => decodeByteForm w .push
  | 0xD => decodeBareForm w .pop
  | 0xE => decodeBareForm w .avail
  | 0xF => decodeBareForm w .clear
  | _ => .illegal .opcode

/-- The three fields put together: `OP`, `ARG`, `DATA` (R91). -/
def pack (op arg : BitVec 4) (data : Byte) : Word := op ++ arg ++ data

/-- The word of an instruction (R93 to R103). -/
def encode : Instr → Word
  | .init sel => pack 0x1 sel 0
  | .writeByte b => pack 0x2 0 b
  | .readByte => pack 0x3 0 0
  | .available => pack 0x4 0 0
  | .flushRx => pack 0x5 0 0
  | .rxEvent b => pack 0x8 0 b
  | .txReady => pack 0x9 0 0
  | .push b => pack 0xC 0 b
  | .pop => pack 0xD 0 0
  | .avail => pack 0xE 0 0
  | .clear => pack 0xF 0 0

/-- One row of R93 to R103: a word belongs to the row when `(w & mask) == pattern`. -/
structure Row where
  mnemonic : String
  pattern : Word
  mask : Word
deriving DecidableEq, Repr

/-- The match and mask of every command (R93 to R103). -/
def rows : List Row :=
  [ ⟨"INIT", 0x1000, 0xF0FF⟩, ⟨"WRITE_BYTE", 0x2000, 0xFF00⟩, ⟨"READ_BYTE", 0x3000, 0xFFFF⟩,
    ⟨"AVAILABLE", 0x4000, 0xFFFF⟩, ⟨"FLUSH_RX", 0x5000, 0xFFFF⟩, ⟨"RX_EVENT", 0x8000, 0xFF00⟩,
    ⟨"TX_READY", 0x9000, 0xFFFF⟩, ⟨"PUSH", 0xC000, 0xFF00⟩, ⟨"POP", 0xD000, 0xFFFF⟩,
    ⟨"AVAIL", 0xE000, 0xFFFF⟩, ⟨"CLEAR", 0xF000, 0xFFFF⟩ ]

/-- `(w & mask) == match` (R111). -/
def Row.covers (r : Row) (w : Word) : Prop := w &&& r.mask = r.pattern

/-- The instruction that the decoder reads from a table row's word under the default `BAUD_RATES`; a command word is 16
bits (R90), so bits above bit 15 spell nothing. -/
def decodeTableWord (nbits w : Nat) : Option Instr :=
  if w % 2 ^ nbits < 2 ^ 16 then (decode Config.defaultParams.nb (BitVec.ofNat 16 (w % 2 ^ nbits))).instr? else none

end Sys2Proof
end

