-- ==== Sys2Proof/Machine/State.lean ====
section
/-! DEFINITION. The state of SerialFIFO (10_state.md), the stop marks of R220 and R221, the reasons a step can stop,
and the state after power-on reset (R44, R260). State is plain data. -/

namespace Sys2Proof.Machine

/-- A RingBuffer (R21, R22): two index registers and the slot array. Its capacity is a parameter (R7, R20). -/
structure RingBuffer where
  /-- The next free write slot. -/
  head : Nat
  /-- The next unread slot. -/
  tail : Nat
  /-- `B.slot`: a slot that is not listed holds `none`. -/
  slots : Memory
deriving DecidableEq, Repr

/-- Which RingBuffer: inbound, outbound, or the standalone unit (R20, R27). -/
inductive BufferId where
  | rx
  | tx
  | unit
deriving DecidableEq, Repr

/-- The two levels of R18, with R106's two kinds of block-level sequence told apart. -/
inductive Level where
  /-- Block level, a driver command sequence: APP and IRQ commands, each executed as it is issued. -/
  | driver
  /-- Block level, a unit command sequence: UNIT commands on the standalone unit. -/
  | unit
  /-- Platform level: `APP`, `IRQ` and `ENV` step concurrently. -/
  | platform
deriving DecidableEq, Repr

/-- `appPhase` (R35). -/
inductive AppPhase where
  | idle
  | enablePending
deriving DecidableEq, Repr

/-- The progress of a `WRITE_BUFFER` (R35): the bytes not yet enqueued and the count so far. -/
structure WriteProgress where
  rest : List Byte
  count : Nat
deriving DecidableEq, Repr

/-- The typed results of `RES` (R36, R110). -/
inductive Result where
  | unit
  | bool (b : Bool)
  | nat (n : Nat)
  | optByte (v : Option Byte)
deriving DecidableEq, Repr

/-- The fault marks of R220. Each records the command word that raised it (a `WRITE_BUFFER` has none: log entry 10), and
`unwrittenSlot` the buffer and the slot index as well. -/
inductive FaultKind where
  /-- A command other than `INIT` before `INIT` (code 1). -/
  | notInitialized (c : Command)
  /-- `pop` met an occupied slot that holds `none` (code 2). -/
  | unwrittenSlot (c : Command) (b : BufferId) (i : Nat)
deriving DecidableEq, Repr

/-- The code column of R220. -/
def FaultKind.code : FaultKind → Nat
  | .notInitialized _ => 1
  | .unwrittenSlot _ _ _ => 2

/-- The refusal marks of R221, with the recorded value. -/
inductive RefusalKind where
  /-- The decoder answered `illegal` (code 16). -/
  | illegalEncoding (w : Word)
  /-- A command issued from a port it does not belong to (code 17): the command and the port it was issued from. -/
  | wrongPort (c : Command) (p : Port)
  /-- A second `INIT` (code 18). -/
  | reinitNotModelled (w : Word)
  /-- A configuration outside R7 to R9 (code 19). -/
  | badConfiguration (p : Params)
deriving DecidableEq, Repr

/-- The code column of R221. -/
def RefusalKind.code : RefusalKind → Nat
  | .illegalEncoding _ => 16
  | .wrongPort _ _ => 17
  | .reinitNotModelled _ => 18
  | .badConfiguration _ => 19

/-- Why the machine stops with a fault. -/
inductive Fault where
  /-- Raised by `step` in a state whose `fault` mark is set: no agent takes another step (R222). Safe. -/
  | recorded (k : FaultKind)
  /-- Raised by `PUSH`, `POP` and every meaning that uses them when the index register names no slot, which the spec
  says cannot happen (R60, R61); no state with its indices in range raises it (log entry 8). Safe. -/
  | slotOutOfRange (b : BufferId) (i : Nat)
deriving DecidableEq, Repr

/-- Why the machine refuses a step. -/
inductive Refusal where
  /-- Raised by `exec` for an instruction that has no meaning yet; no arm answers it. Safe. -/
  | notModelled (mnemonic : String)
  /-- Raised by `step` in a state whose `refused` mark is set: no agent takes another step (R222). Safe. -/
  | recorded (r : RefusalKind)
deriving DecidableEq, Repr

/-- The state of SerialFIFO (R20), and after it the model's own fields that hold what the outside world supplies. -/
structure State where
  /-- The configuration of R7 to R9: a parameter of the step relation that no step changes. -/
  params : Params
  /-- The inbound RingBuffer (R27); labels 5 and 6 of R33 are its indices. -/
  rx : RingBuffer
  /-- The outbound RingBuffer (R27); labels 7 and 8 of R33 are its indices. -/
  tx : RingBuffer
  /-- The standalone RingBuffer unit `U` (R26). -/
  unit : RingBuffer
  /-- Label 2 of R33 (R28). -/
  initialized : Bool
  /-- Label 0 of R33: the transmit-interrupt enable, `false` = 0 = `Disabled` (R30). -/
  txie : Bool
  /-- Label 1 of R33: the receive-interrupt enable (R31). -/
  rxie : Bool
  /-- Label 3 of R33: the selector `INIT` was given (R32). -/
  baudSel : Option (BitVec 4)
  /-- Label 4 of R33: the baud configuration the peripheral holds (R32). -/
  cfg : Option BaudPair
  /-- The index of the application program's next command (R34). -/
  appPc : Nat
  /-- The phase of the application command in progress (R35). -/
  appPhase : AppPhase
  /-- The progress of a `WRITE_BUFFER` in progress (R35). -/
  wb : Option WriteProgress
  /-- `RES`, the result of the last completed command (R36). -/
  res : Option Result
  /-- Label 9 of R33: the peripheral's transmit register can take a byte (R38). -/
  txRegEmpty : Bool
  /-- The bytes passed to `write_tx_register`, in call order (R39). -/
  txOut : List Byte
  /-- The bytes delivered with `RX_EVENT`, in delivery order (R40). -/
  rxLog : List Byte
  /-- The fault mark (R41). -/
  fault : Option FaultKind
  /-- The refusal mark (R41). -/
  refused : Option RefusalKind
  /-- The level of execution (R18). -/
  level : Level
  /-- Block level: the commands not yet issued, next first (R18). -/
  queue : List Command
  /-- Platform level: the application program (R34). -/
  program : List Command
  /-- Platform level: the choices of platform and environment for the next boundaries (R242), next first. -/
  schedule : List Move
  /-- How many choices have been taken: the argument of `Config.freeMove` when `schedule` is empty. -/
  draws : Nat
deriving DecidableEq, Repr

/-- An empty RingBuffer with no slot written: the constructed unit of R26. The driver's indices at power-on are
unspecified (R44) and the model starts them at 0 (DESIGN CHOICE, unsafe, log entry 4). -/
def RingBuffer.fresh : RingBuffer := { head := 0, tail := 0, slots := [] }

/-- Power-on reset (R44, R260), with the default parameters and nothing loaded from outside (log entries 2, 4, 6). -/
def State.reset : State :=
  { params := Config.defaultParams
    rx := .fresh
    tx := .fresh
    unit := .fresh
    initialized := false
    txie := false
    rxie := false
    baudSel := none
    cfg := none
    appPc := 0
    appPhase := .idle
    wb := none
    res := none
    txRegEmpty := true
    txOut := []
    rxLog := []
    fault := none
    refused := none
    level := .driver
    queue := []
    program := []
    schedule := []
    draws := 0 }

end Sys2Proof.Machine
end

