-- ==== Sys2Proof/Machine/Ops.lean ====
section
/-! DEFINITION. The shared operations: index arithmetic (R12), slot storage (R13, R60), the RingBuffer operations (R123 to
R126), the named writes of state, the peripheral calls (R236 to R238), recording a fault or a refusal (R220 to R222),
and the completion of a command (R34, R36). -/

namespace Sys2Proof.Machine

/-! ### Index arithmetic (R12) -/

/-- `N = 2^K` (R7). -/
def capacity (k : Nat) : Nat := 2 ^ k

/-- `mask(x) = x & (N − 1)`. -/
def mask (k x : Nat) : Nat := x &&& (capacity k - 1)

/-- `inc(i) = mask(i + 1)`. -/
def inc (k i : Nat) : Nat := mask k (i + 1)

/-- `dist(h, t) = mask(h + N − t)`. -/
def dist (k h t : Nat) : Nat := mask k (h + capacity k - t)

/-! ### Slot storage -/

/-- What a slot index holds: `none` if nothing has written it since reset (R22). -/
def Memory.read : Memory → Nat → Option Byte
  | [], _ => none
  | (a, v) :: m, i => if a = i then some v else Memory.read m i

/-- Write byte `v` at slot index `i`, keeping the indices strictly rising. -/
def Memory.write : Memory → Nat → Byte → Memory
  | [], i, v => [(i, v)]
  | (a, w) :: m, i, v =>
    if i < a then (i, v) :: (a, w) :: m
    else if i = a then (i, v) :: m
    else (a, w) :: Memory.write m i v

/-- The canonical form: slot indices strictly rising. (An entry is never `none`, so none equals what an unlisted index
reads as.) -/
abbrev Memory.wf (m : Memory) : Prop := m.Pairwise (fun a b => a.1 < b.1)

/-- `MemRead(B, i, 1)` (R13). -/
def RingBuffer.memRead (B : RingBuffer) (i : Nat) : Option Byte := Memory.read B.slots i

/-- `MemWrite(B, i, 1, v)` (R13). -/
def RingBuffer.memWrite (B : RingBuffer) (i : Nat) (v : Byte) : RingBuffer :=
  { B with slots := Memory.write B.slots i v }

/-! ### The RingBuffer (R23, R123 to R126) -/

/-- `empty(B)` (R23). -/
def RingBuffer.empty (B : RingBuffer) : Bool := decide (B.head = B.tail)

/-- `full(B)` (R23). -/
def RingBuffer.full (k : Nat) (B : RingBuffer) : Bool := decide (inc k B.head = B.tail)

/-- `available(B)` (R23), the result of `avail` (R125). -/
def RingBuffer.available (k : Nat) (B : RingBuffer) : Nat := dist k B.head B.tail

/-- The slot address `push` writes: the head index as it stands (R61). -/
def RingBuffer.pushAddr (B : RingBuffer) : Nat := B.head

/-- The slot address `pop` reads: the tail index as it stands (R61). -/
def RingBuffer.popAddr (B : RingBuffer) : Nat := B.tail

/-- The three ends of `push`. -/
inductive PushResult where
  /-- Full: `false`, and no state written. -/
  | full
  /-- Stored: `true`, with the new buffer. -/
  | stored (B : RingBuffer)
  /-- The head index names no slot (log entry 8). -/
  | noSlot (i : Nat)
deriving DecidableEq, Repr

/-- The four ends of `pop`. -/
inductive PopResult where
  /-- Empty: `none`, and no state written. -/
  | empty
  /-- `some v`, with the new buffer. -/
  | taken (v : Byte) (B : RingBuffer)
  /-- The occupied slot holds `none` (R124). -/
  | unwritten (i : Nat)
  /-- The tail index names no slot (log entry 8). -/
  | noSlot (i : Nat)
deriving DecidableEq, Repr

/-- `push(B, b)` (R123): the full check, then the slot (R67), then the new head. -/
def RingBuffer.push (k : Nat) (B : RingBuffer) (b : Byte) : PushResult :=
  if inc k B.head = B.tail then .full
  else if B.pushAddr < capacity k then .stored { B.memWrite B.pushAddr b with head := inc k B.head }
  else .noSlot B.pushAddr

/-- `pop(B)` (R124): the empty check, then the slot (R68), then the new tail. -/
def RingBuffer.pop (k : Nat) (B : RingBuffer) : PopResult :=
  if B.head = B.tail then .empty
  else if B.popAddr < capacity k then
    match B.memRead B.popAddr with
    | none => .unwritten B.popAddr
    | some v => .taken v { B with tail := inc k B.tail }
  else .noSlot B.popAddr

/-- `clear(B)` (R126): both indices to 0, slots unchanged (R130). -/
def RingBuffer.clear (B : RingBuffer) : RingBuffer := { B with head := 0, tail := 0 }

/-! ### Named writes of state -/

/-- The inbound buffer. -/
def State.setRx (s : State) (B : RingBuffer) : State := { s with rx := B }

/-- The outbound buffer. -/
def State.setTx (s : State) (B : RingBuffer) : State := { s with tx := B }

/-- The standalone unit. -/
def State.setUnit (s : State) (B : RingBuffer) : State := { s with unit := B }

/-- `appPhase` (R35). -/
def State.setPhase (s : State) (p : AppPhase) : State := { s with appPhase := p }

/-- `wb` (R35). -/
def State.setWb (s : State) (w : Option WriteProgress) : State := { s with wb := w }

/-- A UNIT command writes its result (R36). -/
def State.setRes (s : State) (r : Result) : State := { s with res := some r }

/-- An application command completes: its result goes to `RES` (R36), and at the platform level `appPc` moves to the
program's next command (R34; the block level keeps `appPc`, DEDUCED, unsafe, log entry 13). -/
def State.finish (s : State) (r : Result) : State :=
  { s with res := some r, appPc := if s.level = .platform then s.appPc + 1 else s.appPc }

/-- `rxLog <- rxLog ++ [b]` (R40, R191). -/
def State.logRx (s : State) (b : Byte) : State := { s with rxLog := s.rxLog ++ [b] }

/-- The fault mark (R41). -/
def State.recordFault (s : State) (k : FaultKind) : State := { s with fault := some k }

/-- The refusal mark (R41). -/
def State.recordRefusal (s : State) (r : RefusalKind) : State := { s with refused := some r }

/-- The commands of a block-level sequence that are not yet issued. -/
def State.setQueue (s : State) (cs : List Command) : State := { s with queue := cs }

/-! ### The peripheral calls (R236 to R238) and the environment step (R233) -/

/-- `configure(divisor, fractional_modulation)` (R236). -/
def State.configure (s : State) (c : BaudPair) : State := { s with cfg := some c }

/-- `write_tx_register(v)` (R237): handed over whether or not the transmit register is empty (I15). -/
def State.writeTxRegister (s : State) (v : Byte) : State := { s with txOut := s.txOut ++ [v], txRegEmpty := false }

/-- `TX_DONE` (R233): the peripheral can take another byte. -/
def State.txDone (s : State) : State := { s with txRegEmpty := true }

/-! ### Recording a fault or a refusal -/

/-- `raise Fault(k)`: the fault mark is recorded and nothing else changes (R13, R220). The mark stops the machine at the
next step (R222, `running`; DEDUCED, safe, log entry 7). -/
def raiseFault (k : FaultKind) (s : State) : Host.Outcome State Fault Refusal :=
  .next (s.recordFault k)

/-- `refuse(r)`: the refusal mark is recorded and nothing else changes (R13, R221). -/
def refuse (r : RefusalKind) (s : State) : Host.Outcome State Fault Refusal :=
  .next (s.recordRefusal r)

/-- No agent takes a step in a state with a mark (R222), nor under a configuration outside R7 to R9, which is refused
before any other step (R221, R224). -/
def running (s : State) (go : Host.Outcome State Fault Refusal) : Host.Outcome State Fault Refusal :=
  match s.fault, s.refused with
  | some k, _ => .fault (.recorded k)
  | none, some r => .refused (.recorded r)
  | none, none => if s.params.wf then go else refuse (.badConfiguration s.params) s

/-- Every driver command but `INIT` first checks `initialized` (R159, R190); `c` is the recorded value (R220). -/
def whenInitialized (c : Command) (s : State) (go : Host.Outcome State Fault Refusal) : Host.Outcome State Fault Refusal :=
  if s.initialized then go else raiseFault (.notInitialized c) s

end Sys2Proof.Machine
end

