-- ==== Sys2Proof/Machine/Flags.lean ====
section
/-! DEFINITION. The flags of R42: `TXIE`, `RXIE`, `initialized` and `txRegEmpty`; the check-then-enable of R70, and the
two interrupt gates (R226 to R229). -/

namespace Sys2Proof.Machine

/-- `set_tx_interrupt_enabled(b)`, the write of `TXIE` (R239). -/
def State.setTxie (s : State) (b : Bool) : State := { s with txie := b }

/-- `RXIE <- 1` (R31). -/
def State.enableRxie (s : State) : State := { s with rxie := true }

/-- `initialized <- true` (R28). -/
def State.setInitialized (s : State) : State := { s with initialized := true }

/-- Critical section 1 (R70): `if TXIE == 0 then TXIE <- 1`. -/
def State.checkThenEnable (s : State) : State := if s.txie then s else s.setTxie true

/-- The level of the transmit source (R227). -/
def State.txRequest (s : State) : Bool := s.txie && s.txRegEmpty

/-- The receive gate (R228). -/
def State.rxGate (s : State) : Bool := s.initialized && s.rxie && s.fault.isNone && s.refused.isNone

/-- The transmit gate (R229). -/
def State.txGate (s : State) : Bool := s.initialized && s.txRequest && s.fault.isNone && s.refused.isNone

end Sys2Proof.Machine
end

