-- ==== Sys2Proof/Machine/Operands.lean ====
section
/-! DEFINITION. What an operand stands for: the baud selector of `INIT` (R8, R93) and the byte of a receive event (R238).
The byte operands of `WRITE_BYTE` and `PUSH` are used as they are (R94, R100). -/

namespace Sys2Proof.Machine

/-- `BAUD_RATES[sel]` (R93); none for a selector of `NB` or more. -/
def baudRate (p : Params) (sel : BitVec 4) : Option Nat := p.baudRates[sel.toNat]?

/-- `BAUD_CONFIG(sel)` (R8, R93): an open value (log entry 3). -/
def baudPair (sel : BitVec 4) : BaudPair := Config.baudConfig sel

/-- `read_rx_register()` (R238): the byte of the `RX_EVENT` being handled. -/
def readRxRegister (b : Byte) : Byte := b

/-- `BAUD_SEL <- some sel` (R32). -/
def State.setBaudSel (s : State) (sel : BitVec 4) : State := { s with baudSel := some sel }

end Sys2Proof.Machine
end

