-- ==== Sys2Proof/Machine/AppPort.lean ====
section
/-! DEFINITION. The application port (41_app_port.md): the commands of the `APP` agent, the two phases of `WRITE_BYTE`, and
the pseudo-command `WRITE_BUFFER`. -/

namespace Sys2Proof.Machine

/-- The effects of `INIT`, in the order of R263: configure, both buffers, `TXIE`, `RXIE`, `initialized`. -/
def State.initialise (s : State) (sel : BitVec 4) : State :=
  ((((((s.configure (baudPair sel)).setBaudSel sel).setRx s.rx.clear).setTx s.tx.clear).setTxie false).enableRxie).setInitialized

/-- `INIT sel` (R151); a second one is refused (R160). -/
def execInit (sel : BitVec 4) (s : State) : Host.Outcome State Fault Refusal :=
  if s.initialized then refuse (.reinitNotModelled (encode (.init sel))) s
  else .next ((s.initialise sel).finish .unit)

/-- `WRITE_BYTE` returns `r`: to `RES` when it is a command of its own (R154), and to the loop of R155 when it is a
byte of a `WRITE_BUFFER` in progress. -/
def State.writeByteReturn (s : State) (r : Bool) : State :=
  match s.wb with
  | none => s.finish (.bool r)
  | some p =>
    if r then s.setWb (some { rest := p.rest.tail, count := p.count + 1 })
    else (s.setWb none).finish (.nat p.count)

/-- `WB_PHASE2` (R153): the critical section, then `appPhase <- Idle` and `true`. -/
def State.wbPhase2 (s : State) : State := (s.checkThenEnable.setPhase .idle).writeByteReturn true

/-- `WB_PHASE1` (R152) from a state with `appPhase = Idle`, and what follows it: at the block level phase 2 at once, and
at the platform level nothing, for phase 2 is an `APP` step of its own (R154, D23). -/
def wbPhase1 (b : Byte) (s : State) : Host.Outcome State Fault Refusal :=
  match s.tx.push s.params.kTx b with
  | .full => .next (s.writeByteReturn false)
  | .stored B =>
    if s.level = .platform then .next ((s.setTx B).setPhase .enablePending)
    else .next (((s.setTx B).setPhase .enablePending).wbPhase2)
  | .noSlot i => .fault (.slotOutOfRange .tx i)

/-- `WRITE_BYTE b` (R154). -/
def execWriteByte (b : Byte) (s : State) : Host.Outcome State Fault Refusal :=
  whenInitialized (.word (encode (.writeByte b))) s (wbPhase1 b s)

/-- `READ_BYTE` (R156): the pop of critical section 2 (R71). -/
def execReadByte (s : State) : Host.Outcome State Fault Refusal :=
  whenInitialized (.word (encode .readByte)) s <|
    match s.rx.pop s.params.kRx with
    | .empty => .next (s.finish (.optByte none))
    | .taken v B => .next ((s.setRx B).finish (.optByte (some v)))
    | .unwritten i => raiseFault (.unwrittenSlot (.word (encode .readByte)) .rx i) s
    | .noSlot i => .fault (.slotOutOfRange .rx i)

/-- `AVAILABLE` (R157). -/
def execAvailable (s : State) : Host.Outcome State Fault Refusal :=
  whenInitialized (.word (encode .available)) s (.next (s.finish (.nat (s.rx.available s.params.kRx))))

/-- `FLUSH_RX` (R158): the atomic clear of R72. -/
def execFlushRx (s : State) : Host.Outcome State Fault Refusal :=
  whenInitialized (.word (encode .flushRx)) s (.next ((s.setRx s.rx.clear).finish .unit))

/-- One iteration of the loop of R155, up to the end of its first `APP` step: the end of the list returns the count, and
a byte starts its `WRITE_BYTE`. -/
def writeBufferIterate (p : WriteProgress) (s : State) : Host.Outcome State Fault Refusal :=
  match p.rest with
  | [] => .next ((s.setWb none).finish (.nat p.count))
  | b :: _ => wbPhase1 b s

/-- The whole loop of R155 with no other agent's step in it: the block level. -/
def writeBufferRun : List Byte → Nat → State → Host.Outcome State Fault Refusal
  | [], c, s => writeBufferIterate { rest := [], count := c } (s.setWb (some { rest := [], count := c }))
  | b :: rest, c, s =>
    match writeBufferIterate { rest := b :: rest, count := c } (s.setWb (some { rest := b :: rest, count := c })) with
    | .next t => if t.wb = none then .next t else writeBufferRun rest (c + 1) t
    | o => o

/-- `WRITE_BUFFER bytes` (R155): the whole loop at the block level, and at the platform level the setting of `wb` and
the first iteration's first step (DEDUCED, unsafe, log entry 9); `appStep` takes it on from there. A fault before `INIT`
records the pseudo-command itself (DESIGN CHOICE, unsafe, log entry 10). -/
def execWriteBuffer (bytes : List Byte) (s : State) : Host.Outcome State Fault Refusal :=
  whenInitialized (.writeBuffer bytes) s <|
    if s.level = .platform then
      writeBufferIterate { rest := bytes, count := 0 } (s.setWb (some { rest := bytes, count := 0 }))
    else writeBufferRun bytes 0 s

end Sys2Proof.Machine
end

