-- ==== Sys2Proof/Machine/IrqPort.lean ====
section
/-! DEFINITION. The interrupt port (42_irq_port.md): the two handler invocations, each one atomic step (R190). Entry and
return write nothing (R235). -/

namespace Sys2Proof.Machine

/-- `RX_EVENT b` (R191): the byte is logged, and stored unless the inbound buffer is full (R192). -/
def execRxEvent (b : Byte) (s : State) : Host.Outcome State Fault Refusal :=
  whenInitialized (.word (encode (.rxEvent b))) s <|
    match s.rx.push s.params.kRx (readRxRegister b) with
    | .full => .next (s.logRx (readRxRegister b))
    | .stored B => .next ((s.logRx (readRxRegister b)).setRx B)
    | .noSlot i => .fault (.slotOutOfRange .rx i)

/-- `TXIE <- 0` if the outbound buffer is empty, before the handler returns (R195). -/
def State.disableIfEmpty (s : State) : State := if s.tx.empty then s.setTxie false else s

/-- `TX_READY` (R193). -/
def execTxReady (s : State) : Host.Outcome State Fault Refusal :=
  whenInitialized (.word (encode .txReady)) s <|
    match s.tx.pop s.params.kTx with
    | .empty => .next (s.setTxie false)
    | .taken v B => .next (((s.setTx B).writeTxRegister v).disableIfEmpty)
    | .unwritten i => raiseFault (.unwrittenSlot (.word (encode .txReady)) .tx i) s
    | .noSlot i => .fault (.slotOutOfRange .tx i)

end Sys2Proof.Machine
end

