-- ==== Sys2Proof/Machine/Unit.lean ====
section
/-! DEFINITION. The UNIT commands on the standalone RingBuffer unit `U` (40_ringbuffer.md). -/

namespace Sys2Proof.Machine

/-- `PUSH b` (R123). -/
def execPush (b : Byte) (s : State) : Host.Outcome State Fault Refusal :=
  match s.unit.push s.params.kUnit b with
  | .full => .next (s.setRes (.bool false))
  | .stored B => .next ((s.setUnit B).setRes (.bool true))
  | .noSlot i => .fault (.slotOutOfRange .unit i)

/-- `POP` (R124). -/
def execPop (s : State) : Host.Outcome State Fault Refusal :=
  match s.unit.pop s.params.kUnit with
  | .empty => .next (s.setRes (.optByte none))
  | .taken v B => .next ((s.setUnit B).setRes (.optByte (some v)))
  | .unwritten i => raiseFault (.unwrittenSlot (.word (encode .pop)) .unit i) s
  | .noSlot i => .fault (.slotOutOfRange .unit i)

/-- `AVAIL` (R125). -/
def execAvail (s : State) : Host.Outcome State Fault Refusal :=
  .next (s.setRes (.nat (s.unit.available s.params.kUnit)))

/-- `CLEAR` (R126); the result is `unit`. -/
def execClear (s : State) : Host.Outcome State Fault Refusal :=
  .next ((s.setUnit s.unit.clear).setRes .unit)

end Sys2Proof.Machine
end

