-- ==== Sys2Proof/Machine/Dispatch.lean ====
section
/-! DEFINITION. The meaning of every command, one arm a constructor. -/

namespace Sys2Proof.Machine

def exec (i : Instr) (s : State) : Host.Outcome State Fault Refusal :=
  match i with
  | .init sel => Sys2Proof.Machine.execInit sel s
  | .writeByte b => Sys2Proof.Machine.execWriteByte b s
  | .readByte => Sys2Proof.Machine.execReadByte s
  | .available => Sys2Proof.Machine.execAvailable s
  | .flushRx => Sys2Proof.Machine.execFlushRx s
  | .rxEvent b => Sys2Proof.Machine.execRxEvent b s
  | .txReady => Sys2Proof.Machine.execTxReady s
  | .push b => Sys2Proof.Machine.execPush b s
  | .pop => Sys2Proof.Machine.execPop s
  | .avail => Sys2Proof.Machine.execAvail s
  | .clear => Sys2Proof.Machine.execClear s

end Sys2Proof.Machine
end

