-- ==== Sys2Proof/Machine/Sequencer.lean ====
section
/-! DEFINITION. The sequencer: which commands each kind of sequence admits (R106), how a command is issued (R18, R224), what
the next step of `APP` is (R34, R35, R231), and the platform's boundary (R228 to R234, R242). -/

namespace Sys2Proof.Machine

/-- The three bullets of R106. -/
def Level.admits : Level → Port → Bool
  | .driver, .app => true
  | .driver, .irq => true
  | .driver, .unit => false
  | .unit, .app => false
  | .unit, .irq => false
  | .unit, .unit => true
  | .platform, .app => true
  | .platform, .irq => false
  | .platform, .unit => false

/-- The port a command of each sequence is issued from, which `WrongPort` records (R221). For a driver sequence it is the
application port (DESIGN CHOICE, unsafe, log entry 11). -/
def Level.issuePort : Level → Port
  | .driver => .app
  | .unit => .unit
  | .platform => .app

/-- Issue a command: decode (R104), then the port check (R106), then the meaning; the first condition met is the one
recorded (R224). `WRITE_BUFFER` is a command of the application port (R109). A port is checked when its command is
issued (DEDUCED, unsafe, log entry 12). -/
def issue (c : Command) (s : State) : Host.Outcome State Fault Refusal :=
  match c with
  | .word w =>
    match decode s.params.nb w with
    | .illegal _ => refuse (.illegalEncoding w) s
    | .ok i => if s.level.admits i.port then exec i s else refuse (.wrongPort (.word w) s.level.issuePort) s
  | .writeBuffer bytes =>
    if s.level.admits .app then execWriteBuffer bytes s
    else refuse (.wrongPort (.writeBuffer bytes) s.level.issuePort) s

/-- The next command and the state it is issued in: `program[appPc]` at the platform level (R34), and the next one of
the sequence at the block level (R18). -/
def State.nextCommand (s : State) : Option (Command × State) :=
  match s.level with
  | .platform => (s.program[s.appPc]?).map (fun c => (c, s))
  | _ =>
    match s.queue with
    | [] => none
    | c :: cs => some (c, s.setQueue cs)

/-- The next step of the agent that runs the command sequence (R231): phase 2 of a `WRITE_BYTE`, else the next
iteration of a `WRITE_BUFFER`, else the next command (R150). With no command left it does nothing. -/
def appStep (s : State) : Host.Outcome State Fault Refusal :=
  match s.appPhase with
  | .enablePending => .next s.wbPhase2
  | .idle =>
    match s.wb with
    | some p => writeBufferIterate p s
    | none =>
      match s.nextCommand with
      | none => .next s
      | some (c, t) => issue c t

/-- The platform-level choice at this boundary: the next one written down, else a free value (R234, R242). -/
def State.nextMove (s : State) : Move :=
  match s.schedule with
  | [] => Config.freeMove s.draws
  | m :: _ => m

/-- The choice at this boundary is used up. -/
def State.takeMove (s : State) : State := { s with schedule := s.schedule.tail, draws := s.draws + 1 }

/-- `APP` has a step left (R242). -/
def State.appEnabled (s : State) : Bool :=
  s.fault.isNone && s.refused.isNone &&
  (decide (s.appPhase ≠ .idle) || s.wb.isSome || decide (s.appPc < s.program.length))

/-- Which steps are enabled at a boundary (R228, R229, R233, R242). -/
def State.enabled (s : State) : Move → Bool
  | .app => s.appEnabled
  | .rxEvent _ => s.rxGate
  | .txReady => s.txGate
  | .txDone => !s.txRegEmpty && s.fault.isNone && s.refused.isNone

/-- Which steps are duties, which the platform takes in the end if they stay enabled; the other steps, receive deliveries,
are liberties (R240, R242). -/
def Move.isDuty : Move → Bool
  | .app => true
  | .rxEvent _ => false
  | .txReady => true
  | .txDone => true

/-- The same state with `m` as the platform's choice at this boundary (R242; the form of a choice is log entry 5). -/
def State.offer (s : State) (m : Move) : State := { s with schedule := [m] }

/-- What an enabled step does: a step of `APP`, one handler invocation (R235), or the environment's `TX_DONE`. -/
def runMove (m : Move) (s : State) : Host.Outcome State Fault Refusal :=
  match m with
  | .app => appStep s
  | .rxEvent b => exec (.rxEvent b) s
  | .txReady => exec .txReady s
  | .txDone => .next s.txDone

/-- A boundary of the platform (R242): the chosen step is taken if it is enabled. A choice that is not enabled is passed
over (DESIGN CHOICE, safe, log entry 5). -/
def platformStep (s : State) : Host.Outcome State Fault Refusal :=
  if s.enabled s.nextMove then runMove s.nextMove s.takeMove else .next s.takeMove

/-- One step at either level (R18). -/
def levelStep (s : State) : Host.Outcome State Fault Refusal :=
  match s.level with
  | .platform => platformStep s
  | _ => appStep s

/-- The kind of block-level sequence that admits a command. -/
def Command.blockLevel (nb : Nat) : Command → Level
  | .writeBuffer _ => .driver
  | .word w =>
    match decode nb w with
    | .illegal _ => .driver
    | .ok i => if i.port = .unit then .unit else .driver

/-- Load one command from outside, to be issued by the very next step at the block level: no command is in progress and
`c` is next in the sequence (log entry 6). -/
def State.loadNext (s : State) (c : Command) : State :=
  { s with level := Command.blockLevel s.params.nb c, appPhase := .idle, wb := none, queue := c :: s.queue }

/-- Load an application program and run it at the platform level from its first command (R34, R261). The spec runs one
program, from reset; that a load into a later state starts again at `appPc = 0` with no command in progress, and keeps
every other field, is the model's choice (DESIGN CHOICE, unsafe, log entry 6). -/
def State.loadProgram (s : State) (cs : List Command) (choices : List Move) : State :=
  { s with level := .platform, program := cs, appPc := 0, appPhase := .idle, wb := none, schedule := choices }

end Sys2Proof.Machine
end

