-- ==== Sys2Proof/Machine/Step.lean ====
section
/-! DEFINITION. One step of SerialFIFO, and the placing of a word where the next step fetches it. -/

namespace Sys2Proof.Machine

/-- One step (R18, R222, R224): stopped by a mark, refused for a bad configuration, else a step of the current level. -/
def step (s : State) : Host.Outcome State Fault Refusal := running s (levelStep s)

/-- `s` with the command word whose bits are `w` as the command that the very next step issues. -/
def State.withFetchWord (s : State) (nbits w : Nat) : State :=
  s.loadNext (.word (BitVec.ofNat 16 (w % 2 ^ nbits)))

end Sys2Proof.Machine
end

