-- ==== Sys2Proof/Machine/Asm.lean ====
section
/-! DEFINITION. The assembler of R108 and R109: one line of text, as its characters, to the command it spells. -/

namespace Sys2Proof.Machine

/-- What one line of source spells (R108). -/
inductive AsmLine where
  /-- An empty line, or a comment alone. -/
  | blank
  /-- `init <rate>`. -/
  | initRate (rate : Nat)
  /-- `init #<sel>`. -/
  | initSel (sel : Nat)
  /-- A command whose word needs no table. -/
  | instr (i : Instr)
  /-- `write_buffer <byte>{, <byte>}`, or `write_buffer` alone with length 0. -/
  | writeBuffer (bytes : List Byte)
deriving DecidableEq, Repr

/-- `;` starts a comment (R108). -/
def stripComment : List Char → List Char
  | [] => []
  | c :: cs => if c = ';' then [] else c :: stripComment cs

/-- Words between blanks, with each comma a word of its own; `cur` is the word being read, reversed. -/
def tokens : List Char → List Char → List (List Char)
  | cur, [] => if cur = [] then [] else [cur.reverse]
  | cur, c :: cs =>
    if c = ' ' ∨ c = '\t' then (if cur = [] then tokens [] cs else cur.reverse :: tokens [] cs)
    else if c = ',' then (if cur = [] then [','] :: tokens [] cs else cur.reverse :: [','] :: tokens [] cs)
    else tokens (c :: cur) cs

/-- A decimal digit. -/
def decDigit (c : Char) : Option Nat :=
  if '0'.toNat ≤ c.toNat ∧ c.toNat ≤ '9'.toNat then some (c.toNat - '0'.toNat) else none

/-- A hexadecimal digit, in either case (DESIGN CHOICE, safe, log entry 14). -/
def hexDigit (c : Char) : Option Nat :=
  if '0'.toNat ≤ c.toNat ∧ c.toNat ≤ '9'.toNat then some (c.toNat - '0'.toNat)
  else if 'a'.toNat ≤ c.toNat ∧ c.toNat ≤ 'f'.toNat then some (c.toNat - 'a'.toNat + 10)
  else if 'A'.toNat ≤ c.toNat ∧ c.toNat ≤ 'F'.toNat then some (c.toNat - 'A'.toNat + 10)
  else none

/-- A decimal number after the digits read so far. -/
def decimalFrom : Nat → List Char → Option Nat
  | acc, [] => some acc
  | acc, c :: cs =>
    match decDigit c with
    | some d => decimalFrom (10 * acc + d) cs
    | none => none

/-- A decimal number of at least one digit. -/
def decimal : List Char → Option Nat
  | [] => none
  | c :: cs => decimalFrom 0 (c :: cs)

/-- A byte operand: `0x00` to `0xFF`, or decimal `0` to `255` (R108). -/
def byteOperand : List Char → Option Byte
  | ['0', 'x', h, l] =>
    match hexDigit h, hexDigit l with
    | some a, some b => some (BitVec.ofNat 8 (16 * a + b))
    | _, _ => none
  | cs =>
    match decimal cs with
    | some n => if n ≤ 255 then some (BitVec.ofNat 8 n) else none
    | none => none

/-- A list of byte operands with a comma between each two (R108, R109). -/
def byteList : List (List Char) → Option (List Byte)
  | [] => none
  | [t] => (byteOperand t).map (fun b => [b])
  | t :: c :: ts =>
    if c = [','] then
      match byteOperand t, byteList ts with
      | some b, some bs => some (b :: bs)
      | _, _ => none
    else none

/-- The mnemonics of the commands with no operand, as they are spelt (R108). -/
def bareMnemonics : List (String × Instr) :=
  [("read_byte", .readByte), ("available", .available), ("flush_rx", .flushRx), ("tx_ready", .txReady), ("pop", .pop),
    ("avail", .avail), ("clear", .clear)]

/-- The mnemonics of the commands with a byte operand, as they are spelt (R108). -/
def byteMnemonics : List (String × (Byte → Instr)) :=
  [("write_byte", .writeByte), ("rx_event", .rxEvent), ("push", .push)]

/-- The table entry whose spelling is the characters `m`. -/
def lookupMnemonic {α : Type} (m : List Char) : List (String × α) → Option α
  | [] => none
  | (name, a) :: rest => if m = name.toList then some a else lookupMnemonic m rest

/-- The words of one line to what they spell; `none` for a line that fits no form of R108. -/
def parseTokens : List (List Char) → Option AsmLine
  | [] => some .blank
  | m :: ops =>
    if m = "init".toList then
      match ops with
      | [('#' :: n)] => (decimal n).map .initSel
      | [n] => (decimal n).map .initRate
      | _ => none
    else if m = "write_buffer".toList then
      match ops with
      | [] => some (.writeBuffer [])
      | _ => (byteList ops).map .writeBuffer
    else
      match lookupMnemonic m bareMnemonics, lookupMnemonic m byteMnemonics with
      | some i, _ => if ops = [] then some (.instr i) else none
      | none, some f =>
        match ops with
        | [t] => (byteOperand t).map (fun b => .instr (f b))
        | _ => none
      | none, none => none

/-- One line of source (R108). -/
def parseLine (cs : List Char) : Option AsmLine := parseTokens (tokens [] (stripComment cs))

/-- The index of a rate in `BAUD_RATES`, which the assembler writes as `ARG` (R108). Of a rate that is listed twice it is the
first index (DESIGN CHOICE, unsafe, log entry 17). -/
def rateSelector (p : Params) (rate : Nat) : Option (BitVec 4) :=
  let n := p.baudRates.findIdx (fun r => decide (r = rate))
  if n < p.nb ∧ n < 16 then some (BitVec.ofNat 4 n) else none

/-- The command a line spells (R108, R109): a word, or the pseudo-command. `some none` is a blank line. -/
def assemble (p : Params) : AsmLine → Option (Option Command)
  | .blank => some none
  | .initRate rate => (rateSelector p rate).map (fun sel => some (.word (encode (.init sel))))
  | .initSel sel => if sel < 16 then some (some (.word (encode (.init (BitVec.ofNat 4 sel))))) else none
  | .instr i => some (some (.word (encode i)))
  | .writeBuffer bytes => some (some (.writeBuffer bytes))

/-- `WRITE_BUFFER` written as words (R109): the words `0x2000 | b`, of which a prefix executes. -/
def writeBufferWords (bytes : List Byte) : List Word := bytes.map (fun b => encode (.writeByte b))

end Sys2Proof.Machine
end

