-- ==== Sys2Proof/Safety.lean ====
section
/-! DEFINITION. The terms that claims are stated in: the content of a RingBuffer (R24), the invariants (R21, R24, R45,
R199), the end of a platform run (R243), the outcome of a sequence of commands (R128, R129), and fair runs of the platform (R240,
R242). -/

namespace Sys2Proof.Machine

/-- The occupied bytes of a buffer, oldest first: slots `mask(tail + j)` for `j` in `[0, available)` (R24). -/
def RingBuffer.contents (k : Nat) (B : RingBuffer) : List Byte :=
  (List.range (B.available k)).filterMap (fun j => B.memRead (mask k (B.tail + j)))

/-- What the spec says of every RingBuffer of capacity `2^k`: both indices are in `[0, N)` (R21), only its `N` slots hold
bytes (R22, R60), and every occupied slot holds `some v` (R24). -/
structure RingBuffer.Ok (k : Nat) (B : RingBuffer) : Prop where
  head_lt : B.head < capacity k
  tail_lt : B.tail < capacity k
  slots_wf : Memory.wf B.slots
  slots_lt : ∀ c ∈ B.slots, c.1 < capacity k
  occupied : ∀ j, j < B.available k → (B.memRead (mask k (B.tail + j))).isSome = true

/-- Every byte in the outbound buffer will be asked for (R199): after `INIT`, with no `WRITE_BYTE` between its phases, a
non-empty outbound buffer has the transmit interrupt enabled. -/
def State.NoStranded (s : State) : Prop :=
  s.initialized = true → s.appPhase = .idle → s.tx.empty = false → s.txie = true

/-- The relations between the control fields (R28, R31, R32, R35). -/
structure State.ControlOk (s : State) : Prop where
  rxie_eq : s.rxie = s.initialized
  baudSel_isSome : s.baudSel.isSome = s.initialized
  cfg_eq : s.cfg = s.baudSel.map baudPair
  baudSel_lt : ∀ sel, s.baudSel = some sel → sel.toNat < s.params.nb
  before_init : s.initialized = false → s.txie = false ∧ s.appPhase = .idle ∧ s.wb = none
  pending_byte : s.appPhase = .enablePending → ∀ p, s.wb = some p → p.rest ≠ []

/-- The invariant of the machine: three well-formed buffers and the control relations. -/
structure State.Inv (s : State) : Prop where
  rx_ok : s.rx.Ok s.params.kRx
  tx_ok : s.tx.Ok s.params.kTx
  unit_ok : s.unit.Ok s.params.kUnit
  control : s.ControlOk

/-- The outbound byte stream: the bytes handed to the transmitter, then the bytes waiting in `tx`. -/
def State.txStream (s : State) : List Byte := s.txOut ++ s.tx.contents s.params.kTx

/-- The block-level form of the flag invariant (R45): with no command in progress and no interleaving, the transmit
interrupt is enabled exactly when the outbound buffer is non-empty; a spurious enable needs the race of R198. -/
def State.FlagTracksBuffer (s : State) : Prop :=
  s.level ≠ .platform ∧ s.appPhase = .idle ∧ s.wb = none ∧ (s.initialized = true → s.txie = !s.tx.empty)

/-- The run is complete (R243). -/
def State.complete (s : State) : Bool :=
  decide (s.appPc = s.program.length) && decide (s.appPhase = .idle) && s.wb.isNone && s.fault.isNone &&
  s.refused.isNone && s.tx.empty && !s.txie && s.txRegEmpty

/-- No command of the application is in progress (R150). -/
def State.appIdle (s : State) : Prop := s.appPhase = .idle ∧ s.wb = none

/-- No mark is set and the configuration is one of R7 to R9: the premise of every claim about a step (R222). -/
def State.live (s : State) : Prop := s.fault = none ∧ s.refused = none ∧ s.params.wf = true

/-- The state after a sequence of commands, if none stops. -/
def execAll : List Instr → State → Option State
  | [], s => some s
  | i :: is, s =>
    match exec i s with
    | .next t => execAll is t
    | _ => none

/-- `RES` after each command of a sequence. -/
def resultsOf : List Instr → State → List (Option Result)
  | [], _ => []
  | i :: is, s =>
    match exec i s with
    | .next t => t.res :: resultsOf is t
    | _ => []

/-- The bytes whose `PUSH` returned `true`, in order (R128, R129). -/
def pushedBytes : List Instr → State → List Byte
  | [], _ => []
  | i :: is, s =>
    match exec i s with
    | .next t => (match i with | .push b => if t.res = some (.bool true) then [b] else [] | _ => []) ++ pushedBytes is t
    | _ => []

/-- The bytes that a `POP` returned, in order (R128, R129). -/
def poppedBytes : List Instr → State → List Byte
  | [], _ => []
  | i :: is, s =>
    match exec i s with
    | .next t =>
      (match i, t.res with | .pop, some (.optByte (some v)) => [v] | _, _ => []) ++ poppedBytes is t
    | _ => []

/-- A command that neither clears the unit nor belongs to another port: the interleavings of R128 and R129. -/
def isPushPopAvail : Instr → Bool
  | .push _ => true
  | .pop => true
  | .avail => true
  | .init _ => false
  | .writeByte _ => false
  | .readByte => false
  | .available => false
  | .flushRx => false
  | .rxEvent _ => false
  | .txReady => false
  | .clear => false

/-- The fields that a handler invocation neither reads nor writes (R196) take the values they have in `u`. -/
def State.withAppFieldsOf (s u : State) : State :=
  { s with
    rxie := u.rxie
    baudSel := u.baudSel
    cfg := u.cfg
    appPc := u.appPc
    appPhase := u.appPhase
    wb := u.wb
    res := u.res }

/-- The same state at the platform level, with the application program at index `pc`. -/
def State.atPlatform (s : State) (pc : Nat) : State := { s with level := .platform, appPc := pc }

/-- A step outcome with a function applied to its next state. -/
def mapNext (f : State → State) : Host.Outcome State Fault Refusal → Host.Outcome State Fault Refusal
  | .next t => .next (f t)
  | .fault r => .fault r
  | .refused r => .refused r

/-- `n` steps of the application with no other agent's step between them (R231). -/
def appSteps : Nat → State → Host.Outcome State Fault Refusal
  | 0, s => .next s
  | n + 1, s =>
    match appStep s with
    | .next t => appSteps n t
    | o => o

/-! ### Platform runs (R240, R242) -/

/-- A mark is set: no agent takes another step (R222). -/
def State.marked (s : State) : Prop := s.fault ≠ none ∨ s.refused ≠ none

/-- A run of the platform: at each boundary `n` the platform chooses `ms n`, any move at all, and the machine steps. A
state that takes no step is repeated (R222). -/
def IsPlatformRun (r : Nat → State) (ms : Nat → Move) : Prop :=
  (r 0).level = .platform ∧
  ∀ n, step ((r n).offer (ms n)) = .next (r (n + 1)) ∨ ((∀ t, step ((r n).offer (ms n)) ≠ .next t) ∧ r (n + 1) = r n)

/-- Move `m` is taken at boundary `n`: it is the choice, and it is enabled there. -/
def TakenAt (r : Nat → State) (ms : Nat → Move) (m : Move) (n : Nat) : Prop :=
  ms n = m ∧ (r n).live ∧ (r n).enabled m = true

/-- Weak fairness (R242): a duty that stays enabled is eventually taken. -/
def WeaklyFair (r : Nat → State) (ms : Nat → Move) : Prop :=
  ∀ m, Move.isDuty m = true → ∀ n, (∀ j, n ≤ j → (r j).enabled m = true) → ∃ j, n ≤ j ∧ TakenAt r ms m j

/-- Only finitely many bytes are delivered: the premise of a claim that a run ends (R242). -/
def FinitelyManyDeliveries (r : Nat → State) (ms : Nat → Move) : Prop :=
  ∃ n, ∀ j b, n ≤ j → ¬ TakenAt r ms (.rxEvent b) j

/-- What the environment must do (R240): report `TX_DONE` in the end after each `write_tx_register`, that is, from every
boundary at which the transmit register is busy, unless a mark has stopped every agent (R222). -/
def EnvironmentMeetsItsDuty (r : Nat → State) (ms : Nat → Move) : Prop :=
  ∀ n, (r n).txRegEmpty = false → ∃ j, n ≤ j ∧ (TakenAt r ms .txDone j ∨ (r j).marked)

end Sys2Proof.Machine
end

