-- ==== Sys2Proof/Certificates/Slice0/Obligations.lean ====
section
/-! DEFINITION. The statements for the provers. Each docstring names the rule it formalises. -/

open Sys2Proof Sys2Proof.Machine

/-! ### Encoding -/

/-- R92 to R104, R111: no bit of an encoding is dropped. -/
def Obligations.DecodeOfEncodeIsIdentity : Prop :=
  ∀ (nb : Nat) (i : Instr), i.wf nb = true → decode nb (encode i) = .ok i

/-- R92 to R104, R111, the other direction: a legal word is the encoding of the command it spells, and that command is
well formed. -/
def Obligations.EncodeOfDecodeIsIdentity : Prop :=
  ∀ (nb : Nat) (w : Word) (i : Instr), decode nb w = .ok i → encode i = w ∧ i.wf nb = true

/-- R111. -/
def Obligations.DecoderFollowsMatchAndMask : Prop :=
  (∀ (nb : Nat) (w : Word) (i : Instr), decode nb w = .ok i →
    ∃ r ∈ rows, r.mnemonic = i.mnemonic ∧ r.covers w ∧ (r.mnemonic = "INIT" → (argField w).toNat < nb)) ∧
  (∀ (nb : Nat) (w : Word), ∀ r ∈ rows, r.covers w → (r.mnemonic = "INIT" → (argField w).toNat < nb) →
    ∃ i, decode nb w = .ok i ∧ i.mnemonic = r.mnemonic) ∧
  (∀ (w : Word), ∀ r ∈ rows, ∀ r' ∈ rows, r.covers w → r'.covers w → r = r')

/-- R104, with the unused operation codes of R105: which words are illegal, and that issuing one records the refusal and
changes nothing else. -/
def Obligations.IllegalWordsAreRefused : Prop :=
  (∀ (nb : Nat) (w : Word), (∃ why, decode nb w = .illegal why) ↔
    (opField w ∈ [0x0, 0x6, 0x7, 0xA, 0xB] ∨ (opField w ≠ 0x1 ∧ argField w ≠ 0) ∨
      (opField w ∉ [0x2, 0x8, 0xC] ∧ dataField w ≠ 0) ∨ (opField w = 0x1 ∧ nb ≤ (argField w).toNat))) ∧
  (∀ (s : State) (w : Word) (why : Illegal), decode s.params.nb w = .illegal why →
    issue (.word w) s = .next { s with refused := some (.illegalEncoding w) })

/-- R93 to R103: words written out from the spec. -/
def Obligations.TabulatedWordsDecode : Prop :=
  decode 5 0x1000 = .ok (.init 0) ∧ decode 5 0x1400 = .ok (.init 4) ∧ decode 5 0x2041 = .ok (.writeByte 0x41) ∧
  decode 5 0x3000 = .ok .readByte ∧ decode 5 0x8041 = .ok (.rxEvent 0x41) ∧ decode 5 0x9000 = .ok .txReady ∧
  decode 5 0xC010 = .ok (.push 0x10) ∧ decode 5 0xD000 = .ok .pop

/-- R93, R108: the selector that the assembler writes for a rate names that rate. -/
def Obligations.AssemblerSelectsTheRate : Prop :=
  ∀ (p : Params) (rate : Nat) (sel : BitVec 4), rateSelector p rate = some sel → baudRate p sel = some rate

/-! ### Steps -/

/-- R18, R34, R104, R106: a step runs the decoded command. At the block level it is the next word of the sequence; at the platform level, when the choice at the boundary is `APP`, it is the program's word at
`appPc`. `appPc` itself moves when the command completes (its meaning). The model's own choices: that a choice is used up
(`schedule.tail`, `draws + 1`) is log entry 5, that an issued command leaves the queue is log entry 6, and that its port
alone is checked, whatever else the sequence holds, is log entry 12. -/
def Obligations.StepRunsTheDecodedCommand : Prop :=
  ∀ (s : State) (w : Word) (i : Instr), s.live → s.appIdle → decode s.params.nb w = .ok i →
    s.level.admits i.port = true →
    (∀ cs, s.level ≠ .platform → s.queue = .word w :: cs → step s = exec i { s with queue := cs }) ∧
    (s.level = .platform → s.nextMove = .app → s.program[s.appPc]? = some (.word w) →
      step s = exec i { s with schedule := s.schedule.tail, draws := s.draws + 1 })

/-- R109, R155: a step issues `WRITE_BUFFER` in the same places. The model's own choices: that a choice is used up
(`schedule.tail`, `draws + 1`) is log entry 5, that an issued command leaves the queue is log entry 6, and that it runs
whatever follows in the sequence is log entry 12. -/
def Obligations.StepRunsWriteBuffer : Prop :=
  ∀ (s : State) (bytes : List Byte), s.live → s.appIdle →
    (∀ cs, s.level = .driver → s.queue = .writeBuffer bytes :: cs →
      step s = execWriteBuffer bytes { s with queue := cs }) ∧
    (s.level = .platform → s.nextMove = .app → s.program[s.appPc]? = some (.writeBuffer bytes) →
      step s = execWriteBuffer bytes { s with schedule := s.schedule.tail, draws := s.draws + 1 })

/-- R228: when the receive gate is open, whatever the byte. -/
def Obligations.ReceiveGateOpens : Prop :=
  ∀ (s : State) (b : Byte), s.enabled (.rxEvent b) = true ↔
    (s.initialized = true ∧ s.rxie = true ∧ s.fault = none ∧ s.refused = none)

/-- R229: when the transmit gate is open. -/
def Obligations.TransmitGateOpens : Prop :=
  ∀ (s : State), s.enabled .txReady = true ↔
    (s.initialized = true ∧ s.txie = true ∧ s.txRegEmpty = true ∧ s.fault = none ∧ s.refused = none)

/-- R233: `TX_DONE` is enabled exactly while the transmit register is busy; it sets `txRegEmpty` and changes nothing else. -/
def Obligations.TxDoneEmptiesTheRegister : Prop :=
  (∀ (s : State), s.fault = none → s.refused = none → (s.enabled .txDone = true ↔ s.txRegEmpty = false)) ∧
  (∀ (s : State), runMove .txDone s = .next { s with txRegEmpty := true })

/-- R234, R235, R242: at a boundary the platform runs the chosen step if it is enabled. That a choice which is not enabled
is passed over, and that a choice is used up, is the model's own form of the free choice (log entry 5). -/
def Obligations.ChosenStepIsTaken : Prop :=
  ∀ (s u : State), s.live → s.level = .platform → u = { s with schedule := s.schedule.tail, draws := s.draws + 1 } →
    (∀ b, s.nextMove = .rxEvent b → s.enabled (.rxEvent b) = true → step s = exec (.rxEvent b) u) ∧
    (s.nextMove = .txReady → s.enabled .txReady = true → step s = exec .txReady u) ∧
    (s.nextMove = .txDone → s.enabled .txDone = true → step s = .next { u with txRegEmpty := true }) ∧
    (s.nextMove = .app → s.enabled .app = true → step s = appStep u) ∧
    (s.enabled s.nextMove = false → step s = .next u)

/-- R222: with a mark set no agent takes another step, so no step clears a mark; and a marked state is not complete. -/
def Obligations.MarkedStateIsStuck : Prop :=
  ∀ (s : State), s.fault ≠ none ∨ s.refused ≠ none → (∀ t, step s ≠ .next t) ∧ s.complete = false

/-- R7, R8, R9, R221, R224: a configuration outside the rules is refused before any other step. The spec refuses it at
model construction; that the refusal is the machine's first step is the model's reading (log entry 1). -/
def Obligations.BadConfigurationIsRefusedFirst : Prop :=
  ∀ (s : State), s.fault = none → s.refused = none →
    (s.params.kRx < 1 ∨ s.params.kTx < 1 ∨ s.params.kUnit < 1 ∨ s.params.atomicBits < s.params.kRx ∨
      s.params.atomicBits < s.params.kTx ∨ s.params.baudRates.length = 0 ∨ 16 < s.params.baudRates.length) →
    step s = .next { s with refused := some (.badConfiguration s.params) }

/-- R106: what each kind of sequence refuses, `WRITE_BUFFER` in a unit sequence included. The port recorded for a driver
sequence is the model's choice (log entry 11), and so is the value recorded for a `WRITE_BUFFER` (log entry 10). -/
def Obligations.WrongPortIsRefused : Prop :=
  ∀ (s : State) (w : Word) (i : Instr), decode s.params.nb w = .ok i →
    (s.level = .driver → i.port = .unit → issue (.word w) s = .next { s with refused := some (.wrongPort (.word w) .app) }) ∧
    (s.level = .unit → i.port ≠ .unit → issue (.word w) s = .next { s with refused := some (.wrongPort (.word w) .unit) }) ∧
    (s.level = .platform → i.port ≠ .app → issue (.word w) s = .next { s with refused := some (.wrongPort (.word w) .app) }) ∧
    (∀ bytes, s.level = .unit →
      issue (.writeBuffer bytes) s = .next { s with refused := some (.wrongPort (.writeBuffer bytes) .unit) })

/-! ### Reset and invariants -/

/-- R260, with the unit's constructed state of R26. The driver's indices are unspecified at power-on and this says
nothing of them. -/
def Obligations.ResetIsPowerOn : Prop :=
  State.reset.initialized = false ∧ State.reset.txie = false ∧ State.reset.rxie = false ∧
  (∀ i, State.reset.rx.memRead i = none ∧ State.reset.tx.memRead i = none ∧ State.reset.unit.memRead i = none) ∧
  State.reset.unit.head = 0 ∧ State.reset.unit.tail = 0 ∧ State.reset.cfg = none ∧ State.reset.baudSel = none ∧
  State.reset.txRegEmpty = true ∧ State.reset.txOut = [] ∧ State.reset.rxLog = [] ∧ State.reset.appPc = 0 ∧
  State.reset.appPhase = .idle ∧ State.reset.wb = none ∧ State.reset.res = none ∧ State.reset.fault = none ∧
  State.reset.refused = none

/-- The invariant of R21, R22, R24, R28, R31, R32 and R35 holds at reset. It rests on the model's own reset value 0 of the
driver's indices (log entry 4). -/
def Obligations.ResetSatisfiesTheInvariant : Prop := State.reset.Inv

/-- Every step keeps the invariant: indices in range (R21), slots canonical and in range (R22, R60), occupied slots
written (R24), and the control fields related as R28, R31, R32 and R35 say. -/
def Obligations.EveryStepKeepsTheInvariant : Prop :=
  ∀ (s t : State), s.Inv → step s = .next t → t.Inv

/-- R199: no step strands a byte in the outbound buffer with the transmit interrupt disabled, and none is stranded at
reset. -/
def Obligations.NoMissedWakeup : Prop :=
  State.reset.NoStranded ∧ ∀ (s t : State), s.NoStranded → step s = .next t → t.NoStranded

/-- R198, R74, R128: once initialised, no step loses, repeats or reorders a byte of the outbound stream (what was handed
to the transmitter, then what waits in `tx`), and at the platform level only a step of `APP` extends it. -/
def Obligations.OutboundStreamOnlyGrows : Prop :=
  ∀ (s t : State), s.Inv → s.initialized = true → step s = .next t →
    s.txStream <+: t.txStream ∧ (s.level = .platform → s.nextMove ≠ .app → t.txStream = s.txStream)

/-- R45, at the block level: the transmit flag follows the occupancy of the outbound buffer at every step. -/
def Obligations.BlockLevelFlagTracksBuffer : Prop :=
  ∀ (s t : State), s.FlagTracksBuffer → step s = .next t → t.FlagTracksBuffer

/-- R20, R22, R34, R77: no step changes the configuration or the application program. That a state carries the
configuration is the model's choice (log entry 1), and so is the clause that no step changes the level of R18, which the
load selects (log entry 6). -/
def Obligations.ConfigurationAndProgramAreFixed : Prop :=
  ∀ (s t : State), step s = .next t → t.params = s.params ∧ t.program = s.program ∧ t.level = s.level

/-- R28, R31, R32: once initialised, a state stays so, the receive interrupt stays enabled and the baud configuration
stays what `INIT` wrote. -/
def Obligations.InitialisationIsForGood : Prop :=
  ∀ (s t : State), s.initialized = true → step s = .next t →
    t.initialized = true ∧ t.rxie = s.rxie ∧ t.cfg = s.cfg ∧ t.baudSel = s.baudSel

/-- R243, D28: a state with no duty step enabled is complete, and the converse. -/
def Obligations.CompleteWhenNoDutyIsEnabled : Prop :=
  ∀ (s : State), s.fault = none → s.refused = none → s.initialized = true → s.NoStranded →
    s.appPc ≤ s.program.length →
    (s.complete = true ↔ s.enabled .app = false ∧ s.enabled .txReady = false ∧ s.enabled .txDone = false)

/-- R235: an interrupt or an environment step leaves the application's sequencing state as it was. -/
def Obligations.InterruptsLeaveTheApplicationAlone : Prop :=
  ∀ (s t : State), s.live → s.level = .platform → s.nextMove ≠ .app → step s = .next t →
    t.appPc = s.appPc ∧ t.appPhase = s.appPhase ∧ t.wb = s.wb ∧ t.res = s.res

/-- R62, R269, at the platform level once initialised: which context may write which index and slot. -/
def Obligations.SingleWriterRoles : Prop :=
  ∀ (s t : State), s.live → s.level = .platform → s.initialized = true → step s = .next t →
    (s.nextMove = .app → t.rx.slots = s.rx.slots ∧ t.tx.tail = s.tx.tail ∧
      (t.rx.head = s.rx.head ∨ s.program[s.appPc]? = some (.word 0x5000))) ∧
    (s.nextMove ≠ .app → t.tx.head = s.tx.head ∧ t.tx.slots = s.tx.slots ∧ t.rx.tail = s.rx.tail ∧
      (t.txie = true → s.txie = true))

/-- R271: between two steps of the application, the inbound count never falls, so the value that `AVAILABLE` returned is
never larger than the true count. -/
def Obligations.CountNeverOverstates : Prop :=
  ∀ (s t : State), s.Inv → s.level = .platform → s.nextMove ≠ .app → step s = .next t →
    s.rx.available s.params.kRx ≤ t.rx.available t.params.kRx

/-! ### The RingBuffer -/

/-- R24, R123 to R126, R128: a RingBuffer is a first-in first-out queue of at most `N − 1` bytes. -/
def Obligations.RingBufferIsABoundedQueue : Prop :=
  ∀ (k : Nat) (B : RingBuffer) (b : Byte), B.Ok k →
    (B.available k = (B.contents k).length) ∧
    (match B.push k b with
      | .full => (B.contents k).length = 2 ^ k - 1
      | .stored B' => B'.Ok k ∧ (B.contents k).length < 2 ^ k - 1 ∧ B'.contents k = B.contents k ++ [b]
      | .noSlot _ => False) ∧
    (match B.pop k with
      | .empty => B.contents k = []
      | .taken v B' => B'.Ok k ∧ B.contents k = v :: B'.contents k
      | .unwritten _ => False
      | .noSlot _ => False) ∧
    (B.clear.Ok k ∧ B.clear.contents k = [])

/-- R122, with the conditions of R23: one slot is always free. -/
def Obligations.UsableCapacityIsOneLess : Prop :=
  ∀ (k : Nat) (B : RingBuffer), B.head < 2 ^ k → B.tail < 2 ^ k →
    B.available k ≤ 2 ^ k - 1 ∧ (B.full k = true ↔ B.available k = 2 ^ k - 1) ∧
    (B.empty = true ↔ B.available k = 0)

/-- R128: the round trip, and for any interleaving the bytes popped are a beginning of the bytes pushed. -/
def Obligations.FifoOrderLaw : Prop :=
  ∀ (s : State), s.unit.Ok s.params.kUnit → s.unit.empty = true →
    (∀ bs : List Byte, bs.length ≤ 2 ^ s.params.kUnit - 1 →
      resultsOf (bs.map .push ++ List.replicate bs.length .pop) s =
        List.replicate bs.length (some (.bool true)) ++ bs.map (fun b => some (.optByte (some b)))) ∧
    (∀ is : List Instr, (∀ i ∈ is, isPushPopAvail i = true) → poppedBytes is s <+: pushedBytes is s)

/-- R129: `CLEAR` starts the counts again from an empty unit; for any interleaving of `push` and `pop` on an empty unit, the count is pushes less pops and at most `N − 1`;
exactly `N − 1` pushes succeed and the next one fails; a pop of an empty unit fails and the count stays 0. -/
def Obligations.CountLaw : Prop :=
  (∀ (s : State), s.unit.Ok s.params.kUnit →
    ∃ t, exec .clear s = .next t ∧ t.unit.Ok t.params.kUnit ∧ t.unit.empty = true) ∧
  (∀ (s : State), s.unit.Ok s.params.kUnit → s.unit.empty = true →
    (∀ is : List Instr, (∀ i ∈ is, isPushPopAvail i = true) →
      ∃ t, execAll is s = some t ∧
        t.unit.available s.params.kUnit + (poppedBytes is s).length = (pushedBytes is s).length ∧
        t.unit.available s.params.kUnit ≤ 2 ^ s.params.kUnit - 1) ∧
    (∀ (bs : List Byte) (b : Byte), bs.length = 2 ^ s.params.kUnit - 1 →
      resultsOf (bs.map .push ++ [.push b, .avail]) s =
        List.replicate bs.length (some (.bool true)) ++ [some (.bool false), some (.nat bs.length)]) ∧
    resultsOf [.pop, .avail] s = [some (.optByte none), some (.nat 0)])

/-! ### The unit's commands -/

/-- R123: `PUSH` stores at the head and moves it, or fails and leaves all state but `RES` unchanged. -/
def Obligations.PushStoresAtTheHead : Prop :=
  ∀ (s : State) (b : Byte), s.unit.head < 2 ^ s.params.kUnit →
    ((s.unit.head + 1) % 2 ^ s.params.kUnit = s.unit.tail →
      exec (.push b) s = .next { s with res := some (.bool false) }) ∧
    ((s.unit.head + 1) % 2 ^ s.params.kUnit ≠ s.unit.tail →
      exec (.push b) s = .next { s with
        unit :=
          { head := (s.unit.head + 1) % 2 ^ s.params.kUnit
            tail := s.unit.tail
            slots := Memory.write s.unit.slots s.unit.head b }
        res := some (.bool true) })

/-- R124: `POP` takes the byte at the tail and moves it, or returns `none` and leaves all state but `RES` unchanged; a
`none` in an occupied slot is the fault `UnwrittenSlot`. -/
def Obligations.PopTakesFromTheTail : Prop :=
  ∀ (s : State), s.unit.tail < 2 ^ s.params.kUnit →
    (s.unit.head = s.unit.tail → exec .pop s = .next { s with res := some (.optByte none) }) ∧
    (∀ v, s.unit.head ≠ s.unit.tail → s.unit.memRead s.unit.tail = some v →
      exec .pop s = .next { s with
        unit :=
          { head := s.unit.head
            tail := (s.unit.tail + 1) % 2 ^ s.params.kUnit
            slots := s.unit.slots }
        res := some (.optByte (some v)) }) ∧
    (s.unit.head ≠ s.unit.tail → s.unit.memRead s.unit.tail = none →
      exec .pop s = .next { s with fault := some (.unwrittenSlot (.word (encode .pop)) .unit s.unit.tail) })

/-- R125: `AVAIL` returns `(head − tail) mod N` and writes nothing else. -/
def Obligations.AvailCountsUnreadBytes : Prop :=
  ∀ (s : State),
    exec .avail s = .next { s with
      res := some (.nat ((s.unit.head + 2 ^ s.params.kUnit - s.unit.tail) % 2 ^ s.params.kUnit)) }

/-- R126, R130: `CLEAR` moves both indices to 0 and writes no slot. -/
def Obligations.ClearEmptiesTheUnit : Prop :=
  ∀ (s : State), exec .clear s = .next { s with
    unit := { head := 0, tail := 0, slots := s.unit.slots }, res := some .unit }

/-! ### The application port -/

/-- R151, R160: what `INIT` writes the first time, and that a second one is refused with nothing else changed.
`Config.baudConfig` is a free value (log entry 3). `appPc` moves on at the platform level (R34); that it stays at the block
level is the model's reading (log entry 13). -/
def Obligations.InitConfiguresOnce : Prop :=
  (∀ (s : State) (sel : BitVec 4), s.initialized = true →
    exec (.init sel) s = .next { s with refused := some (.reinitNotModelled (encode (.init sel))) }) ∧
  (∀ (s : State) (sel : BitVec 4), s.initialized = false →
    exec (.init sel) s = .next { s with
      cfg := some (Config.baudConfig sel)
      baudSel := some sel
      rx := { head := 0, tail := 0, slots := s.rx.slots }
      tx := { head := 0, tail := 0, slots := s.tx.slots }
      txie := false
      rxie := true
      initialized := true
      res := some .unit
      appPc := if s.level = .platform then s.appPc + 1 else s.appPc })

/-- R159, R190, R245: every driver command but `INIT` faults before `INIT`, `WRITE_BUFFER` included, and changes
nothing else. -/
def Obligations.CommandsBeforeInitFault : Prop :=
  ∀ (s : State), s.initialized = false →
    (∀ i : Instr, i.port ≠ .unit → (∀ sel, i ≠ .init sel) →
      exec i s = .next { s with fault := some (.notInitialized (.word (encode i))) }) ∧
    (∀ bytes, ∃ c, execWriteBuffer bytes s = .next { s with fault := some (.notInitialized c) })

/-- R154 at the block level: both phases at once, or `false` with nothing else changed. That `appPc` is among what is
unchanged is the model's reading (log entry 13). -/
def Obligations.WriteByteAtBlockLevel : Prop :=
  ∀ (s : State) (b : Byte), s.initialized = true → s.level ≠ .platform → s.appIdle →
    s.tx.head < 2 ^ s.params.kTx →
    ((s.tx.head + 1) % 2 ^ s.params.kTx = s.tx.tail →
      exec (.writeByte b) s = .next { s with res := some (.bool false) }) ∧
    ((s.tx.head + 1) % 2 ^ s.params.kTx ≠ s.tx.tail →
      exec (.writeByte b) s = .next { s with
        tx :=
          { head := (s.tx.head + 1) % 2 ^ s.params.kTx
            tail := s.tx.tail
            slots := Memory.write s.tx.slots s.tx.head b }
        txie := true
        res := some (.bool true) })

/-- R152 at the platform level: the push alone, then `EnablePending`; on failure the command completes with `false`, and
`TXIE` is not written. -/
def Obligations.WriteBytePhaseOne : Prop :=
  (∀ (s : State) (b : Byte), s.initialized = false →
    exec (.writeByte b) s = .next { s with fault := some (.notInitialized (.word (encode (.writeByte b)))) }) ∧
  (∀ (s : State) (b : Byte), s.initialized = true → s.level = .platform → s.appIdle →
    s.tx.head < 2 ^ s.params.kTx →
    ((s.tx.head + 1) % 2 ^ s.params.kTx = s.tx.tail →
      exec (.writeByte b) s = .next { s with res := some (.bool false), appPc := s.appPc + 1 }) ∧
    ((s.tx.head + 1) % 2 ^ s.params.kTx ≠ s.tx.tail →
      exec (.writeByte b) s = .next { s with
        tx :=
          { head := (s.tx.head + 1) % 2 ^ s.params.kTx
            tail := s.tx.tail
            slots := Memory.write s.tx.slots s.tx.head b }
        appPhase := .enablePending }))

/-- R153 at the platform level: the next step of `APP` after phase 1 leaves `TXIE = 1`, ends the phase and returns `true`,
to `RES` for a `WRITE_BYTE`, with `appPc` moved on (R154, R34), and to the count of a `WRITE_BUFFER` in progress (R155). That
the count is not yet returned after the last byte's phase 2 is the model's reading (log entry 9). -/
def Obligations.WriteBytePhaseTwo : Prop :=
  ∀ (s : State), s.level = .platform → s.appPhase = .enablePending →
    (s.wb = none → appStep s = .next { s with
      txie := true
      appPhase := .idle
      res := some (.bool true)
      appPc := s.appPc + 1 }) ∧
    (∀ b rest c, s.wb = some ⟨b :: rest, c⟩ → appStep s = .next { s with
      txie := true
      appPhase := .idle
      wb := some ⟨rest, c + 1⟩ })

/-- R155 at the block level: the count is the number of bytes that fit, those bytes enter `tx` in list order, and the
rest are not tried. -/
def Obligations.WriteBufferCountsWhatFits : Prop :=
  ∀ (s : State) (bytes : List Byte), s.initialized = true → s.level ≠ .platform → s.appIdle → s.tx.Ok s.params.kTx →
    ∃ t, execWriteBuffer bytes s = .next t ∧
      t.res = some (.nat (min bytes.length (2 ^ s.params.kTx - 1 - s.tx.available s.params.kTx))) ∧
      t.tx.contents s.params.kTx = s.tx.contents s.params.kTx ++
        bytes.take (2 ^ s.params.kTx - 1 - s.tx.available s.params.kTx) ∧
      t.appIdle ∧ t.rx = s.rx ∧ t.txOut = s.txOut ∧
      t.txie = (s.txie || decide (0 < min bytes.length (2 ^ s.params.kTx - 1 - s.tx.available s.params.kTx)))

/-- R155 at the platform level, the first step of each iteration: the end of the list returns the count, a byte that does
not fit ends the command with the count so far, and a byte that fits is stored and waits for its phase 2. That the end of
the list is a step of its own is the model's reading (log entry 9). -/
def Obligations.WriteBufferIterates : Prop :=
  ∀ (s : State), s.level = .platform → s.appPhase = .idle →
    (∀ c, s.wb = some ⟨[], c⟩ → appStep s = .next { s with
      wb := none
      res := some (.nat c)
      appPc := s.appPc + 1 }) ∧
    (∀ b rest c, s.wb = some ⟨b :: rest, c⟩ → (s.tx.head + 1) % 2 ^ s.params.kTx = s.tx.tail →
      appStep s = .next { s with
        wb := none
        res := some (.nat c)
        appPc := s.appPc + 1 }) ∧
    (∀ b rest c, s.wb = some ⟨b :: rest, c⟩ → s.tx.head < 2 ^ s.params.kTx →
      (s.tx.head + 1) % 2 ^ s.params.kTx ≠ s.tx.tail →
      appStep s = .next { s with
        tx :=
          { head := (s.tx.head + 1) % 2 ^ s.params.kTx
            tail := s.tx.tail
            slots := Memory.write s.tx.slots s.tx.head b }
        appPhase := .enablePending })

/-- R18, R154, R155, D23: with no other agent's step between them, the platform's steps of a `WRITE_BYTE` or a
`WRITE_BUFFER` end where the block level's one step ends, but for the level and the program's index. -/
def Obligations.PlatformRefinesBlockLevel : Prop :=
  ∀ (s t : State), s.initialized = true → s.level = .driver → s.appIdle →
    (∀ b, exec (.writeByte b) s = .next t →
      ∃ u n, exec (.writeByte b) (s.atPlatform s.appPc) = .next u ∧
        appSteps n u = .next (t.atPlatform (s.appPc + 1))) ∧
    (∀ bytes, execWriteBuffer bytes s = .next t →
      ∃ u n, execWriteBuffer bytes (s.atPlatform s.appPc) = .next u ∧
        appSteps n u = .next (t.atPlatform (s.appPc + 1)))

/-- R156, R124, R159: `READ_BYTE` is the pop of the inbound buffer. `appPc` moves on at the platform level (R34); that it
stays at the block level is the model's reading (log entry 13). -/
def Obligations.ReadByteTakesTheOldest : Prop :=
  (∀ (s : State), s.initialized = false →
    exec .readByte s = .next { s with fault := some (.notInitialized (.word (encode .readByte))) }) ∧
  (∀ (s : State), s.initialized = true → s.rx.tail < 2 ^ s.params.kRx →
    (s.rx.head = s.rx.tail → exec .readByte s = .next { s with
      res := some (.optByte none)
      appPc := if s.level = .platform then s.appPc + 1 else s.appPc }) ∧
    (∀ v, s.rx.head ≠ s.rx.tail → s.rx.memRead s.rx.tail = some v → exec .readByte s = .next { s with
      rx :=
        { head := s.rx.head
          tail := (s.rx.tail + 1) % 2 ^ s.params.kRx
          slots := s.rx.slots }
      res := some (.optByte (some v))
      appPc := if s.level = .platform then s.appPc + 1 else s.appPc }) ∧
    (s.rx.head ≠ s.rx.tail → s.rx.memRead s.rx.tail = none →
      exec .readByte s = .next { s with fault := some (.unwrittenSlot (.word (encode .readByte)) .rx s.rx.tail) }))

/-- R157: `AVAILABLE` returns the inbound count and writes nothing else. `appPc` moves on at the platform level (R34); that
it stays at the block level is the model's reading (log entry 13). -/
def Obligations.AvailableCountsInbound : Prop :=
  ∀ (s : State), s.initialized = true →
    exec .available s = .next { s with
      res := some (.nat ((s.rx.head + 2 ^ s.params.kRx - s.rx.tail) % 2 ^ s.params.kRx))
      appPc := if s.level = .platform then s.appPc + 1 else s.appPc }

/-- R158, R159: `FLUSH_RX` empties the inbound buffer and touches nothing else. `appPc` moves on at the platform level
(R34); that it stays at the block level is the model's reading (log entry 13). -/
def Obligations.FlushRxClearsInbound : Prop :=
  (∀ (s : State), s.initialized = false →
    exec .flushRx s = .next { s with fault := some (.notInitialized (.word (encode .flushRx))) }) ∧
  (∀ (s : State), s.initialized = true →
    exec .flushRx s = .next { s with
      rx := { head := 0, tail := 0, slots := s.rx.slots }
      res := some .unit
      appPc := if s.level = .platform then s.appPc + 1 else s.appPc })

/-! ### The interrupt port -/

/-- R191: `RX_EVENT` logs the byte, and stores it at the head of the inbound buffer unless the buffer is full. -/
def Obligations.RxEventStoresTheByte : Prop :=
  (∀ (s : State) (b : Byte), s.initialized = false →
    exec (.rxEvent b) s = .next { s with fault := some (.notInitialized (.word (encode (.rxEvent b)))) }) ∧
  (∀ (s : State) (b : Byte), s.initialized = true → s.rx.head < 2 ^ s.params.kRx →
    ((s.rx.head + 1) % 2 ^ s.params.kRx = s.rx.tail →
      exec (.rxEvent b) s = .next { s with rxLog := s.rxLog ++ [b] }) ∧
    ((s.rx.head + 1) % 2 ^ s.params.kRx ≠ s.rx.tail →
      exec (.rxEvent b) s = .next { s with
        rx :=
          { head := (s.rx.head + 1) % 2 ^ s.params.kRx
            tail := s.rx.tail
            slots := Memory.write s.rx.slots s.rx.head b }
        rxLog := s.rxLog ++ [b] }))

/-- R192: drop-newest, keep-oldest-unread, silently. A byte that arrives while the inbound buffer holds `N − 1` bytes is
lost: nothing changes but the model's own record of deliveries (R40), and the next `READ_BYTE` returns the oldest unread
byte as before. -/
def Obligations.RxOverflowIsSilent : Prop :=
  ∀ (s : State) (b : Byte), s.initialized = true → s.rx.Ok s.params.kRx → 1 ≤ s.params.kRx →
    s.rx.available s.params.kRx = 2 ^ s.params.kRx - 1 →
    exec (.rxEvent b) s = .next { s with rxLog := s.rxLog ++ [b] } ∧
    ∃ v rest, s.rx.contents s.params.kRx = v :: rest ∧
      ∃ t, exec .readByte { s with rxLog := s.rxLog ++ [b] } = .next t ∧ t.res = some (.optByte (some v)) ∧
        t.rx.contents s.params.kRx = rest

/-- R193: `TX_READY` drains one byte, or disables the transmit interrupt of an empty outbound buffer. -/
def Obligations.TxReadyDrainsOrDisables : Prop :=
  (∀ (s : State), s.initialized = false →
    exec .txReady s = .next { s with fault := some (.notInitialized (.word (encode .txReady))) }) ∧
  (∀ (s : State), s.initialized = true → s.tx.tail < 2 ^ s.params.kTx →
    (s.tx.head = s.tx.tail → exec .txReady s = .next { s with txie := false }) ∧
    (∀ v, s.tx.head ≠ s.tx.tail → s.tx.memRead s.tx.tail = some v → exec .txReady s = .next { s with
      tx :=
        { head := s.tx.head
          tail := (s.tx.tail + 1) % 2 ^ s.params.kTx
          slots := s.tx.slots }
      txOut := s.txOut ++ [v]
      txRegEmpty := false
      txie := if s.tx.head = (s.tx.tail + 1) % 2 ^ s.params.kTx then false else s.txie }) ∧
    (s.tx.head ≠ s.tx.tail → s.tx.memRead s.tx.tail = none →
      exec .txReady s = .next { s with fault := some (.unwrittenSlot (.word (encode .txReady)) .tx s.tx.tail) }))

/-- R195: when the outbound buffer is empty at the end of a `TX_READY`, the transmit interrupt is disabled. -/
def Obligations.EmptyingDisablesTransmit : Prop :=
  ∀ (s t : State), s.initialized = true → exec .txReady s = .next t → t.tx.empty = true → t.txie = false

/-- R197: one `TX_READY` serves one period of the transmit level. It ends the period, and at most one byte moves. -/
def Obligations.TxReadyEndsTheLevel : Prop :=
  ∀ (s : State), s.initialized = true → s.tx.Ok s.params.kTx →
    ∃ t, exec .txReady s = .next t ∧ t.txRequest = false ∧
      (t.txOut = s.txOut ∧ t.txie = false ∨ ∃ v, t.txOut = s.txOut ++ [v] ∧ t.txRegEmpty = false)

/-- R196: a handler invocation neither reads nor writes `RXIE`, `CFG`, `BAUD_SEL`, `appPc`, `appPhase`, `wb` or `RES`, and
it never sets `TXIE`. -/
def Obligations.HandlerKeepsItsRoles : Prop :=
  ∀ (i : Instr), i.port = .irq → ∀ (s u : State),
    exec i (s.withAppFieldsOf u) = mapNext (fun t => t.withAppFieldsOf u) (exec i s) ∧
    (∀ t, exec i s = .next t → t = { s with
        rx := t.rx, tx := t.tx, txie := t.txie, txRegEmpty := t.txRegEmpty, txOut := t.txOut, rxLog := t.rxLog,
        fault := t.fault } ∧
      t.rx.tail = s.rx.tail ∧ t.tx.head = s.tx.head ∧ t.tx.slots = s.tx.slots ∧ (t.txie = true → s.txie = true))

/-- R194: the moves of the transmit flag. It rises only in a `WRITE_BYTE` that succeeded, and falls only in `INIT` and
in a `TX_READY` that leaves the outbound buffer empty. -/
def Obligations.TransmitFlagMoves : Prop :=
  ∀ (i : Instr) (s t : State), exec i s = .next t →
    (s.txie = false → t.txie = true → ∃ b, i = .writeByte b ∧ s.tx.full s.params.kTx = false) ∧
    (s.txie = true → t.txie = false → (∃ sel, i = .init sel) ∨ (i = .txReady ∧ t.tx.empty = true))

/-! ### Frames -/

/-- R62, R67, R123, R152, R191: the commands that store a byte change that slot and no other, in that buffer and no other,
and no field but those named. The slot stored to is `pushAddr` of the buffer before the command. -/
def Obligations.StoringCommandsFrame : Prop :=
  ∀ (b : Byte) (s t : State),
    (exec (.push b) s = .next t →
      t = { s with unit := t.unit, res := t.res } ∧ t.unit.tail = s.unit.tail ∧
      ∀ a, a ≠ s.unit.pushAddr → t.unit.memRead a = s.unit.memRead a) ∧
    (s.initialized = true → exec (.rxEvent b) s = .next t →
      t = { s with rx := t.rx, rxLog := t.rxLog } ∧ t.rx.tail = s.rx.tail ∧
      ∀ a, a ≠ s.rx.pushAddr → t.rx.memRead a = s.rx.memRead a) ∧
    (s.initialized = true → exec (.writeByte b) s = .next t →
      t = { s with tx := t.tx, txie := t.txie, appPhase := t.appPhase, wb := t.wb, res := t.res, appPc := t.appPc } ∧
      t.tx.tail = s.tx.tail ∧ ∀ a, a ≠ s.tx.pushAddr → t.tx.memRead a = s.tx.memRead a)

/-- R125, R126, R130, R151, R156 to R158, R193: the other commands store to no slot of any buffer. -/
def Obligations.OtherCommandsStoreNothing : Prop :=
  ∀ (i : Instr) (s t : State), (∀ b, i ≠ .push b ∧ i ≠ .rxEvent b ∧ i ≠ .writeByte b) → exec i s = .next t →
    (∀ a, t.rx.memRead a = s.rx.memRead a ∧ t.tx.memRead a = s.tx.memRead a ∧ t.unit.memRead a = s.unit.memRead a) ∧
    t.rxLog = s.rxLog ∧ t.appPhase = s.appPhase ∧ t.wb = s.wb ∧ t.params = s.params ∧
    (i.port = .unit → t = { s with unit := t.unit, res := t.res, fault := t.fault }) ∧
    (i.port ≠ .unit → t.unit = s.unit)

/-- R60, R61: the model's own stop for an index that names no slot, in states that the spec says cannot occur (log
entry 8, the model's choice). -/
def Obligations.IndexOutOfRangeStops : Prop :=
  ∀ (s : State) (b : Byte),
    (2 ^ s.params.kUnit ≤ s.unit.head → (s.unit.head + 1) % 2 ^ s.params.kUnit ≠ s.unit.tail →
      exec (.push b) s = .fault (.slotOutOfRange .unit s.unit.head)) ∧
    (2 ^ s.params.kUnit ≤ s.unit.tail → s.unit.head ≠ s.unit.tail →
      exec .pop s = .fault (.slotOutOfRange .unit s.unit.tail)) ∧
    (s.initialized = true → 2 ^ s.params.kRx ≤ s.rx.head → (s.rx.head + 1) % 2 ^ s.params.kRx ≠ s.rx.tail →
      exec (.rxEvent b) s = .fault (.slotOutOfRange .rx s.rx.head)) ∧
    (s.initialized = true → 2 ^ s.params.kRx ≤ s.rx.tail → s.rx.head ≠ s.rx.tail →
      exec .readByte s = .fault (.slotOutOfRange .rx s.rx.tail)) ∧
    (s.initialized = true → 2 ^ s.params.kTx ≤ s.tx.head → (s.tx.head + 1) % 2 ^ s.params.kTx ≠ s.tx.tail →
      exec (.writeByte b) s = .fault (.slotOutOfRange .tx s.tx.head)) ∧
    (s.initialized = true → 2 ^ s.params.kTx ≤ s.tx.tail → s.tx.head ≠ s.tx.tail →
      exec .txReady s = .fault (.slotOutOfRange .tx s.tx.tail))

/-! ### Platform runs -/

/-- R240: a liberty of the environment ends no wait. A step that is no duty leaves every duty enabled or not as it was and
completes no run, and the transmit register empties only by `TX_DONE`. -/
def Obligations.WaitsEndOnlyByDuties : Prop :=
  (∀ (s t : State), s.live → s.level = .platform → Move.isDuty s.nextMove = false → step s = .next t →
    t.complete = s.complete ∧ ∀ m, Move.isDuty m = true → t.enabled m = s.enabled m) ∧
  (∀ (s t : State), step s = .next t → s.txRegEmpty = false → t.txRegEmpty = true →
    s.level = .platform ∧ s.nextMove = .txDone)

/-- R240, R242: a weakly fair run meets the environment's duty: every busy transmit register is reported empty in the end,
unless a mark stops the run. The form of a choice is the model's (log entry 5). -/
def Obligations.FairnessMeetsTheDuty : Prop :=
  ∀ (r : Nat → State) (ms : Nat → Move), IsPlatformRun r ms → WeaklyFair r ms → EnvironmentMeetsItsDuty r ms

/-- R242, R243: a weakly fair run that starts with no command in progress and no stranded byte reaches a complete state or
a mark, and if only finitely many bytes are delivered it ends there: no step is taken any more. The form of a choice is the
model's (log entry 5). -/
def Obligations.FairRunsEnd : Prop :=
  ∀ (r : Nat → State) (ms : Nat → Move), IsPlatformRun r ms → (r 0).Inv → (r 0).NoStranded → (r 0).appIdle →
    (r 0).appPc ≤ (r 0).program.length → ((r 0).tx.empty = false → (r 0).initialized = true) → WeaklyFair r ms →
    (∃ n, (r n).complete = true ∨ (r n).marked) ∧
    (FinitelyManyDeliveries r ms →
      ∃ n, ((r n).complete = true ∨ (r n).marked) ∧ ∀ m j, n ≤ j → ¬ TakenAt r ms m j)
end

