-- ==== Sys2Proof/Laws/Memory.lean ====
section
/-! SUPPORT. The laws of slot storage and of index arithmetic: read after write, the canonical form, and `mask` as
`mod N` (R12). -/

namespace Sys2Proof.Machine

theorem memory_read_write_same (m : Memory) (i : Nat) (v : Byte) : Memory.read (Memory.write m i v) i = some v := by
  induction m with
  | nil => simp [Memory.write, Memory.read]
  | cons c m ih =>
    obtain ⟨a, w⟩ := c
    by_cases h1 : i < a
    · simp [Memory.write, Memory.read, h1]
    · by_cases h2 : i = a
      · simp [Memory.write, Memory.read, h2]
      · have h3 : ¬ a = i := fun h => h2 h.symm
        simp [Memory.write, Memory.read, h1, h2, h3, ih]

theorem memory_read_write_other (m : Memory) {i j : Nat} (v : Byte) (h : j ≠ i) :
    Memory.read (Memory.write m i v) j = Memory.read m j := by
  have h' : ¬ i = j := fun e => h e.symm
  induction m with
  | nil => simp [Memory.write, Memory.read, h']
  | cons c m ih =>
    obtain ⟨a, w⟩ := c
    by_cases h1 : i < a
    · simp [Memory.write, Memory.read, h1, h']
    · by_cases h2 : i = a
      · subst h2
        simp [Memory.write, Memory.read, h']
      · by_cases h3 : a = j
        · subst h3
          simp [Memory.write, Memory.read, h1, h2]
        · simp [Memory.write, Memory.read, h1, h2, h3, ih]

/-- Every cell of the written storage is the new one or was there before. -/
theorem memory_mem_write {m : Memory} {i : Nat} {v : Byte} {c : Host.Cell} (h : c ∈ Memory.write m i v) :
    c = (i, v) ∨ c ∈ m := by
  induction m with
  | nil => simpa [Memory.write] using h
  | cons d m ih =>
    obtain ⟨a, w⟩ := d
    simp only [Memory.write] at h
    split at h
    · simpa using h
    · split at h
      · rcases List.mem_cons.mp h with h | h
        · exact .inl h
        · exact .inr (List.mem_cons_of_mem _ h)
      · rcases List.mem_cons.mp h with h | h
        · exact .inr (h ▸ List.mem_cons_self)
        · exact (ih h).imp id (List.mem_cons_of_mem _)

/-- A write keeps the canonical form. -/
theorem memory_write_wf {m : Memory} (i : Nat) (v : Byte) (h : Memory.wf m) : Memory.wf (Memory.write m i v) := by
  induction m with
  | nil => simp [Memory.write, Memory.wf]
  | cons d m ih =>
    obtain ⟨a, w⟩ := d
    obtain ⟨ha, hm⟩ := List.pairwise_cons.mp h
    simp only [Memory.write]
    split
    · next hi =>
      refine List.pairwise_cons.mpr ⟨fun c hc => ?_, h⟩
      rcases List.mem_cons.mp hc with rfl | hc
      · exact hi
      · exact Nat.lt_trans hi (ha c hc)
    · split
      · next hi => exact List.pairwise_cons.mpr ⟨fun c hc => hi ▸ ha c hc, hm⟩
      · next h1 h2 =>
        refine List.pairwise_cons.mpr ⟨fun c hc => ?_, ih hm⟩
        rcases memory_mem_write hc with rfl | hc
        · exact Nat.lt_of_le_of_ne (Nat.le_of_not_lt h1) (fun e => h2 e.symm)
        · exact ha c hc

theorem capacity_pos (k : Nat) : 0 < capacity k := Nat.two_pow_pos k

/-- `mask(x)` equals `x mod N` (R12). -/
theorem mask_eq_mod (k x : Nat) : mask k x = x % capacity k := Nat.and_two_pow_sub_one_eq_mod x k

theorem mask_lt (k x : Nat) : mask k x < capacity k := by
  rw [mask_eq_mod]
  exact Nat.mod_lt _ (capacity_pos k)

theorem inc_eq_mod (k i : Nat) : inc k i = (i + 1) % capacity k := mask_eq_mod k (i + 1)

theorem inc_lt (k i : Nat) : inc k i < capacity k := mask_lt k (i + 1)

theorem dist_eq_mod (k h t : Nat) : dist k h t = (h + capacity k - t) % capacity k := mask_eq_mod k _

theorem dist_lt (k h t : Nat) : dist k h t < capacity k := mask_lt k _

end Sys2Proof.Machine
end

