-- ==== Sys2Proof/Laws/Ring.lean ====
section
/-! SUPPORT. Everything that `push`, `pop` and `clear` can do (R123, R124, R126), said once each. -/

namespace Sys2Proof.Machine

/-- What `push` answers, with the condition of each answer. -/
theorem push_cases {k : Nat} {B : RingBuffer} {b : Byte} {r : PushResult} (h : B.push k b = r) :
    (inc k B.head = B.tail ∧ r = .full) ∨
    (inc k B.head ≠ B.tail ∧ B.head < capacity k ∧
      r = .stored { head := inc k B.head, tail := B.tail, slots := Memory.write B.slots B.head b }) ∨
    (inc k B.head ≠ B.tail ∧ capacity k ≤ B.head ∧ r = .noSlot B.head) := by
  subst h
  by_cases h1 : inc k B.head = B.tail
  · exact .inl ⟨h1, by simp [RingBuffer.push, h1]⟩
  · by_cases h2 : B.head < capacity k
    · exact .inr (.inl ⟨h1, h2, by simp [RingBuffer.push, RingBuffer.pushAddr, RingBuffer.memWrite, h1, h2]⟩)
    · exact .inr (.inr ⟨h1, Nat.le_of_not_lt h2, by simp [RingBuffer.push, RingBuffer.pushAddr, h1, h2]⟩)

/-- What `pop` answers, with the condition of each answer. -/
theorem pop_cases {k : Nat} {B : RingBuffer} {r : PopResult} (h : B.pop k = r) :
    (B.head = B.tail ∧ r = .empty) ∨
    (B.head ≠ B.tail ∧ B.tail < capacity k ∧ ∃ v, B.memRead B.tail = some v ∧
      r = .taken v { head := B.head, tail := inc k B.tail, slots := B.slots }) ∨
    (B.head ≠ B.tail ∧ B.tail < capacity k ∧ B.memRead B.tail = none ∧ r = .unwritten B.tail) ∨
    (B.head ≠ B.tail ∧ capacity k ≤ B.tail ∧ r = .noSlot B.tail) := by
  subst h
  by_cases h1 : B.head = B.tail
  · exact .inl ⟨h1, by simp [RingBuffer.pop, h1]⟩
  · by_cases h2 : B.tail < capacity k
    · cases h3 : B.memRead B.tail with
      | none => exact .inr (.inr (.inl ⟨h1, h2, rfl, by simp [RingBuffer.pop, RingBuffer.popAddr, h1, h2, h3]⟩))
      | some v => exact .inr (.inl ⟨h1, h2, v, rfl, by simp [RingBuffer.pop, RingBuffer.popAddr, h1, h2, h3]⟩)
    · exact .inr (.inr (.inr ⟨h1, Nat.le_of_not_lt h2, by simp [RingBuffer.pop, RingBuffer.popAddr, h1, h2]⟩))

@[simp] theorem memWrite_head (B : RingBuffer) (i : Nat) (v : Byte) : (B.memWrite i v).head = B.head := rfl
@[simp] theorem memWrite_tail (B : RingBuffer) (i : Nat) (v : Byte) : (B.memWrite i v).tail = B.tail := rfl
@[simp] theorem memWrite_slots (B : RingBuffer) (i : Nat) (v : Byte) : (B.memWrite i v).slots = Memory.write B.slots i v := rfl
@[simp] theorem clear_head (B : RingBuffer) : B.clear.head = 0 := rfl
@[simp] theorem clear_tail (B : RingBuffer) : B.clear.tail = 0 := rfl
@[simp] theorem clear_slots (B : RingBuffer) : B.clear.slots = B.slots := rfl

theorem empty_iff (B : RingBuffer) : B.empty = true ↔ B.head = B.tail := by simp [RingBuffer.empty]

theorem full_iff (k : Nat) (B : RingBuffer) : B.full k = true ↔ inc k B.head = B.tail := by simp [RingBuffer.full]

/-- Every operation on a buffer keeps the canonical form of its slots. -/
theorem push_slots_wf {k : Nat} {B B' : RingBuffer} {b : Byte} (hw : Memory.wf B.slots) (h : B.push k b = .stored B') :
    Memory.wf B'.slots := by
  rcases push_cases h with ⟨_, e⟩ | ⟨_, _, e⟩ | ⟨_, _, e⟩
  · cases e
  · cases e
    exact memory_write_wf _ _ hw
  · cases e

theorem pop_slots {k : Nat} {B B' : RingBuffer} {v : Byte} (h : B.pop k = .taken v B') : B'.slots = B.slots := by
  rcases pop_cases h with ⟨_, e⟩ | ⟨_, _, w, _, e⟩ | ⟨_, _, _, e⟩ | ⟨_, _, e⟩ <;> cases e
  rfl

end Sys2Proof.Machine
end

