-- ==== Sys2Proof/Laws/State.lean ====
section
/-! SUPPORT. What each named write of state leaves in each field: one lemma a field, by rfl, so that no later proof unfolds a
record update. -/

namespace Sys2Proof.Machine

variable (s : State)

/-! ### `State.setRx`: the write of the inbound buffer -/

@[simp] theorem setRx_params (B : RingBuffer) : (s.setRx B).params = s.params := rfl
@[simp] theorem setRx_rx (B : RingBuffer) : (s.setRx B).rx = B := rfl
@[simp] theorem setRx_tx (B : RingBuffer) : (s.setRx B).tx = s.tx := rfl
@[simp] theorem setRx_unit (B : RingBuffer) : (s.setRx B).unit = s.unit := rfl
@[simp] theorem setRx_initialized (B : RingBuffer) : (s.setRx B).initialized = s.initialized := rfl
@[simp] theorem setRx_txie (B : RingBuffer) : (s.setRx B).txie = s.txie := rfl
@[simp] theorem setRx_rxie (B : RingBuffer) : (s.setRx B).rxie = s.rxie := rfl
@[simp] theorem setRx_baudSel (B : RingBuffer) : (s.setRx B).baudSel = s.baudSel := rfl
@[simp] theorem setRx_cfg (B : RingBuffer) : (s.setRx B).cfg = s.cfg := rfl
@[simp] theorem setRx_appPc (B : RingBuffer) : (s.setRx B).appPc = s.appPc := rfl
@[simp] theorem setRx_appPhase (B : RingBuffer) : (s.setRx B).appPhase = s.appPhase := rfl
@[simp] theorem setRx_wb (B : RingBuffer) : (s.setRx B).wb = s.wb := rfl
@[simp] theorem setRx_res (B : RingBuffer) : (s.setRx B).res = s.res := rfl
@[simp] theorem setRx_txRegEmpty (B : RingBuffer) : (s.setRx B).txRegEmpty = s.txRegEmpty := rfl
@[simp] theorem setRx_txOut (B : RingBuffer) : (s.setRx B).txOut = s.txOut := rfl
@[simp] theorem setRx_rxLog (B : RingBuffer) : (s.setRx B).rxLog = s.rxLog := rfl
@[simp] theorem setRx_fault (B : RingBuffer) : (s.setRx B).fault = s.fault := rfl
@[simp] theorem setRx_refused (B : RingBuffer) : (s.setRx B).refused = s.refused := rfl
@[simp] theorem setRx_level (B : RingBuffer) : (s.setRx B).level = s.level := rfl
@[simp] theorem setRx_queue (B : RingBuffer) : (s.setRx B).queue = s.queue := rfl
@[simp] theorem setRx_program (B : RingBuffer) : (s.setRx B).program = s.program := rfl
@[simp] theorem setRx_schedule (B : RingBuffer) : (s.setRx B).schedule = s.schedule := rfl
@[simp] theorem setRx_draws (B : RingBuffer) : (s.setRx B).draws = s.draws := rfl

/-! ### `State.setTx`: the write of the outbound buffer -/

@[simp] theorem setTx_params (B : RingBuffer) : (s.setTx B).params = s.params := rfl
@[simp] theorem setTx_rx (B : RingBuffer) : (s.setTx B).rx = s.rx := rfl
@[simp] theorem setTx_tx (B : RingBuffer) : (s.setTx B).tx = B := rfl
@[simp] theorem setTx_unit (B : RingBuffer) : (s.setTx B).unit = s.unit := rfl
@[simp] theorem setTx_initialized (B : RingBuffer) : (s.setTx B).initialized = s.initialized := rfl
@[simp] theorem setTx_txie (B : RingBuffer) : (s.setTx B).txie = s.txie := rfl
@[simp] theorem setTx_rxie (B : RingBuffer) : (s.setTx B).rxie = s.rxie := rfl
@[simp] theorem setTx_baudSel (B : RingBuffer) : (s.setTx B).baudSel = s.baudSel := rfl
@[simp] theorem setTx_cfg (B : RingBuffer) : (s.setTx B).cfg = s.cfg := rfl
@[simp] theorem setTx_appPc (B : RingBuffer) : (s.setTx B).appPc = s.appPc := rfl
@[simp] theorem setTx_appPhase (B : RingBuffer) : (s.setTx B).appPhase = s.appPhase := rfl
@[simp] theorem setTx_wb (B : RingBuffer) : (s.setTx B).wb = s.wb := rfl
@[simp] theorem setTx_res (B : RingBuffer) : (s.setTx B).res = s.res := rfl
@[simp] theorem setTx_txRegEmpty (B : RingBuffer) : (s.setTx B).txRegEmpty = s.txRegEmpty := rfl
@[simp] theorem setTx_txOut (B : RingBuffer) : (s.setTx B).txOut = s.txOut := rfl
@[simp] theorem setTx_rxLog (B : RingBuffer) : (s.setTx B).rxLog = s.rxLog := rfl
@[simp] theorem setTx_fault (B : RingBuffer) : (s.setTx B).fault = s.fault := rfl
@[simp] theorem setTx_refused (B : RingBuffer) : (s.setTx B).refused = s.refused := rfl
@[simp] theorem setTx_level (B : RingBuffer) : (s.setTx B).level = s.level := rfl
@[simp] theorem setTx_queue (B : RingBuffer) : (s.setTx B).queue = s.queue := rfl
@[simp] theorem setTx_program (B : RingBuffer) : (s.setTx B).program = s.program := rfl
@[simp] theorem setTx_schedule (B : RingBuffer) : (s.setTx B).schedule = s.schedule := rfl
@[simp] theorem setTx_draws (B : RingBuffer) : (s.setTx B).draws = s.draws := rfl

/-! ### `State.setUnit`: the write of the standalone unit -/

@[simp] theorem setUnit_params (B : RingBuffer) : (s.setUnit B).params = s.params := rfl
@[simp] theorem setUnit_rx (B : RingBuffer) : (s.setUnit B).rx = s.rx := rfl
@[simp] theorem setUnit_tx (B : RingBuffer) : (s.setUnit B).tx = s.tx := rfl
@[simp] theorem setUnit_unit (B : RingBuffer) : (s.setUnit B).unit = B := rfl
@[simp] theorem setUnit_initialized (B : RingBuffer) : (s.setUnit B).initialized = s.initialized := rfl
@[simp] theorem setUnit_txie (B : RingBuffer) : (s.setUnit B).txie = s.txie := rfl
@[simp] theorem setUnit_rxie (B : RingBuffer) : (s.setUnit B).rxie = s.rxie := rfl
@[simp] theorem setUnit_baudSel (B : RingBuffer) : (s.setUnit B).baudSel = s.baudSel := rfl
@[simp] theorem setUnit_cfg (B : RingBuffer) : (s.setUnit B).cfg = s.cfg := rfl
@[simp] theorem setUnit_appPc (B : RingBuffer) : (s.setUnit B).appPc = s.appPc := rfl
@[simp] theorem setUnit_appPhase (B : RingBuffer) : (s.setUnit B).appPhase = s.appPhase := rfl
@[simp] theorem setUnit_wb (B : RingBuffer) : (s.setUnit B).wb = s.wb := rfl
@[simp] theorem setUnit_res (B : RingBuffer) : (s.setUnit B).res = s.res := rfl
@[simp] theorem setUnit_txRegEmpty (B : RingBuffer) : (s.setUnit B).txRegEmpty = s.txRegEmpty := rfl
@[simp] theorem setUnit_txOut (B : RingBuffer) : (s.setUnit B).txOut = s.txOut := rfl
@[simp] theorem setUnit_rxLog (B : RingBuffer) : (s.setUnit B).rxLog = s.rxLog := rfl
@[simp] theorem setUnit_fault (B : RingBuffer) : (s.setUnit B).fault = s.fault := rfl
@[simp] theorem setUnit_refused (B : RingBuffer) : (s.setUnit B).refused = s.refused := rfl
@[simp] theorem setUnit_level (B : RingBuffer) : (s.setUnit B).level = s.level := rfl
@[simp] theorem setUnit_queue (B : RingBuffer) : (s.setUnit B).queue = s.queue := rfl
@[simp] theorem setUnit_program (B : RingBuffer) : (s.setUnit B).program = s.program := rfl
@[simp] theorem setUnit_schedule (B : RingBuffer) : (s.setUnit B).schedule = s.schedule := rfl
@[simp] theorem setUnit_draws (B : RingBuffer) : (s.setUnit B).draws = s.draws := rfl

/-! ### `State.setPhase`: the write of `appPhase` -/

@[simp] theorem setPhase_params (p : AppPhase) : (s.setPhase p).params = s.params := rfl
@[simp] theorem setPhase_rx (p : AppPhase) : (s.setPhase p).rx = s.rx := rfl
@[simp] theorem setPhase_tx (p : AppPhase) : (s.setPhase p).tx = s.tx := rfl
@[simp] theorem setPhase_unit (p : AppPhase) : (s.setPhase p).unit = s.unit := rfl
@[simp] theorem setPhase_initialized (p : AppPhase) : (s.setPhase p).initialized = s.initialized := rfl
@[simp] theorem setPhase_txie (p : AppPhase) : (s.setPhase p).txie = s.txie := rfl
@[simp] theorem setPhase_rxie (p : AppPhase) : (s.setPhase p).rxie = s.rxie := rfl
@[simp] theorem setPhase_baudSel (p : AppPhase) : (s.setPhase p).baudSel = s.baudSel := rfl
@[simp] theorem setPhase_cfg (p : AppPhase) : (s.setPhase p).cfg = s.cfg := rfl
@[simp] theorem setPhase_appPc (p : AppPhase) : (s.setPhase p).appPc = s.appPc := rfl
@[simp] theorem setPhase_appPhase (p : AppPhase) : (s.setPhase p).appPhase = p := rfl
@[simp] theorem setPhase_wb (p : AppPhase) : (s.setPhase p).wb = s.wb := rfl
@[simp] theorem setPhase_res (p : AppPhase) : (s.setPhase p).res = s.res := rfl
@[simp] theorem setPhase_txRegEmpty (p : AppPhase) : (s.setPhase p).txRegEmpty = s.txRegEmpty := rfl
@[simp] theorem setPhase_txOut (p : AppPhase) : (s.setPhase p).txOut = s.txOut := rfl
@[simp] theorem setPhase_rxLog (p : AppPhase) : (s.setPhase p).rxLog = s.rxLog := rfl
@[simp] theorem setPhase_fault (p : AppPhase) : (s.setPhase p).fault = s.fault := rfl
@[simp] theorem setPhase_refused (p : AppPhase) : (s.setPhase p).refused = s.refused := rfl
@[simp] theorem setPhase_level (p : AppPhase) : (s.setPhase p).level = s.level := rfl
@[simp] theorem setPhase_queue (p : AppPhase) : (s.setPhase p).queue = s.queue := rfl
@[simp] theorem setPhase_program (p : AppPhase) : (s.setPhase p).program = s.program := rfl
@[simp] theorem setPhase_schedule (p : AppPhase) : (s.setPhase p).schedule = s.schedule := rfl
@[simp] theorem setPhase_draws (p : AppPhase) : (s.setPhase p).draws = s.draws := rfl

/-! ### `State.setWb`: the write of `wb` -/

@[simp] theorem setWb_params (w : Option WriteProgress) : (s.setWb w).params = s.params := rfl
@[simp] theorem setWb_rx (w : Option WriteProgress) : (s.setWb w).rx = s.rx := rfl
@[simp] theorem setWb_tx (w : Option WriteProgress) : (s.setWb w).tx = s.tx := rfl
@[simp] theorem setWb_unit (w : Option WriteProgress) : (s.setWb w).unit = s.unit := rfl
@[simp] theorem setWb_initialized (w : Option WriteProgress) : (s.setWb w).initialized = s.initialized := rfl
@[simp] theorem setWb_txie (w : Option WriteProgress) : (s.setWb w).txie = s.txie := rfl
@[simp] theorem setWb_rxie (w : Option WriteProgress) : (s.setWb w).rxie = s.rxie := rfl
@[simp] theorem setWb_baudSel (w : Option WriteProgress) : (s.setWb w).baudSel = s.baudSel := rfl
@[simp] theorem setWb_cfg (w : Option WriteProgress) : (s.setWb w).cfg = s.cfg := rfl
@[simp] theorem setWb_appPc (w : Option WriteProgress) : (s.setWb w).appPc = s.appPc := rfl
@[simp] theorem setWb_appPhase (w : Option WriteProgress) : (s.setWb w).appPhase = s.appPhase := rfl
@[simp] theorem setWb_wb (w : Option WriteProgress) : (s.setWb w).wb = w := rfl
@[simp] theorem setWb_res (w : Option WriteProgress) : (s.setWb w).res = s.res := rfl
@[simp] theorem setWb_txRegEmpty (w : Option WriteProgress) : (s.setWb w).txRegEmpty = s.txRegEmpty := rfl
@[simp] theorem setWb_txOut (w : Option WriteProgress) : (s.setWb w).txOut = s.txOut := rfl
@[simp] theorem setWb_rxLog (w : Option WriteProgress) : (s.setWb w).rxLog = s.rxLog := rfl
@[simp] theorem setWb_fault (w : Option WriteProgress) : (s.setWb w).fault = s.fault := rfl
@[simp] theorem setWb_refused (w : Option WriteProgress) : (s.setWb w).refused = s.refused := rfl
@[simp] theorem setWb_level (w : Option WriteProgress) : (s.setWb w).level = s.level := rfl
@[simp] theorem setWb_queue (w : Option WriteProgress) : (s.setWb w).queue = s.queue := rfl
@[simp] theorem setWb_program (w : Option WriteProgress) : (s.setWb w).program = s.program := rfl
@[simp] theorem setWb_schedule (w : Option WriteProgress) : (s.setWb w).schedule = s.schedule := rfl
@[simp] theorem setWb_draws (w : Option WriteProgress) : (s.setWb w).draws = s.draws := rfl

/-! ### `State.setRes`: a UNIT command's result -/

@[simp] theorem setRes_params (r : Result) : (s.setRes r).params = s.params := rfl
@[simp] theorem setRes_rx (r : Result) : (s.setRes r).rx = s.rx := rfl
@[simp] theorem setRes_tx (r : Result) : (s.setRes r).tx = s.tx := rfl
@[simp] theorem setRes_unit (r : Result) : (s.setRes r).unit = s.unit := rfl
@[simp] theorem setRes_initialized (r : Result) : (s.setRes r).initialized = s.initialized := rfl
@[simp] theorem setRes_txie (r : Result) : (s.setRes r).txie = s.txie := rfl
@[simp] theorem setRes_rxie (r : Result) : (s.setRes r).rxie = s.rxie := rfl
@[simp] theorem setRes_baudSel (r : Result) : (s.setRes r).baudSel = s.baudSel := rfl
@[simp] theorem setRes_cfg (r : Result) : (s.setRes r).cfg = s.cfg := rfl
@[simp] theorem setRes_appPc (r : Result) : (s.setRes r).appPc = s.appPc := rfl
@[simp] theorem setRes_appPhase (r : Result) : (s.setRes r).appPhase = s.appPhase := rfl
@[simp] theorem setRes_wb (r : Result) : (s.setRes r).wb = s.wb := rfl
@[simp] theorem setRes_res (r : Result) : (s.setRes r).res = some r := rfl
@[simp] theorem setRes_txRegEmpty (r : Result) : (s.setRes r).txRegEmpty = s.txRegEmpty := rfl
@[simp] theorem setRes_txOut (r : Result) : (s.setRes r).txOut = s.txOut := rfl
@[simp] theorem setRes_rxLog (r : Result) : (s.setRes r).rxLog = s.rxLog := rfl
@[simp] theorem setRes_fault (r : Result) : (s.setRes r).fault = s.fault := rfl
@[simp] theorem setRes_refused (r : Result) : (s.setRes r).refused = s.refused := rfl
@[simp] theorem setRes_level (r : Result) : (s.setRes r).level = s.level := rfl
@[simp] theorem setRes_queue (r : Result) : (s.setRes r).queue = s.queue := rfl
@[simp] theorem setRes_program (r : Result) : (s.setRes r).program = s.program := rfl
@[simp] theorem setRes_schedule (r : Result) : (s.setRes r).schedule = s.schedule := rfl
@[simp] theorem setRes_draws (r : Result) : (s.setRes r).draws = s.draws := rfl

/-! ### `State.finish`: the completion of an application command -/

@[simp] theorem finish_params (r : Result) : (s.finish r).params = s.params := rfl
@[simp] theorem finish_rx (r : Result) : (s.finish r).rx = s.rx := rfl
@[simp] theorem finish_tx (r : Result) : (s.finish r).tx = s.tx := rfl
@[simp] theorem finish_unit (r : Result) : (s.finish r).unit = s.unit := rfl
@[simp] theorem finish_initialized (r : Result) : (s.finish r).initialized = s.initialized := rfl
@[simp] theorem finish_txie (r : Result) : (s.finish r).txie = s.txie := rfl
@[simp] theorem finish_rxie (r : Result) : (s.finish r).rxie = s.rxie := rfl
@[simp] theorem finish_baudSel (r : Result) : (s.finish r).baudSel = s.baudSel := rfl
@[simp] theorem finish_cfg (r : Result) : (s.finish r).cfg = s.cfg := rfl
@[simp] theorem finish_appPc (r : Result) : (s.finish r).appPc = if s.level = .platform then s.appPc + 1 else s.appPc := rfl
@[simp] theorem finish_appPhase (r : Result) : (s.finish r).appPhase = s.appPhase := rfl
@[simp] theorem finish_wb (r : Result) : (s.finish r).wb = s.wb := rfl
@[simp] theorem finish_res (r : Result) : (s.finish r).res = some r := rfl
@[simp] theorem finish_txRegEmpty (r : Result) : (s.finish r).txRegEmpty = s.txRegEmpty := rfl
@[simp] theorem finish_txOut (r : Result) : (s.finish r).txOut = s.txOut := rfl
@[simp] theorem finish_rxLog (r : Result) : (s.finish r).rxLog = s.rxLog := rfl
@[simp] theorem finish_fault (r : Result) : (s.finish r).fault = s.fault := rfl
@[simp] theorem finish_refused (r : Result) : (s.finish r).refused = s.refused := rfl
@[simp] theorem finish_level (r : Result) : (s.finish r).level = s.level := rfl
@[simp] theorem finish_queue (r : Result) : (s.finish r).queue = s.queue := rfl
@[simp] theorem finish_program (r : Result) : (s.finish r).program = s.program := rfl
@[simp] theorem finish_schedule (r : Result) : (s.finish r).schedule = s.schedule := rfl
@[simp] theorem finish_draws (r : Result) : (s.finish r).draws = s.draws := rfl

/-! ### `State.logRx`: the receive history -/

@[simp] theorem logRx_params (b : Byte) : (s.logRx b).params = s.params := rfl
@[simp] theorem logRx_rx (b : Byte) : (s.logRx b).rx = s.rx := rfl
@[simp] theorem logRx_tx (b : Byte) : (s.logRx b).tx = s.tx := rfl
@[simp] theorem logRx_unit (b : Byte) : (s.logRx b).unit = s.unit := rfl
@[simp] theorem logRx_initialized (b : Byte) : (s.logRx b).initialized = s.initialized := rfl
@[simp] theorem logRx_txie (b : Byte) : (s.logRx b).txie = s.txie := rfl
@[simp] theorem logRx_rxie (b : Byte) : (s.logRx b).rxie = s.rxie := rfl
@[simp] theorem logRx_baudSel (b : Byte) : (s.logRx b).baudSel = s.baudSel := rfl
@[simp] theorem logRx_cfg (b : Byte) : (s.logRx b).cfg = s.cfg := rfl
@[simp] theorem logRx_appPc (b : Byte) : (s.logRx b).appPc = s.appPc := rfl
@[simp] theorem logRx_appPhase (b : Byte) : (s.logRx b).appPhase = s.appPhase := rfl
@[simp] theorem logRx_wb (b : Byte) : (s.logRx b).wb = s.wb := rfl
@[simp] theorem logRx_res (b : Byte) : (s.logRx b).res = s.res := rfl
@[simp] theorem logRx_txRegEmpty (b : Byte) : (s.logRx b).txRegEmpty = s.txRegEmpty := rfl
@[simp] theorem logRx_txOut (b : Byte) : (s.logRx b).txOut = s.txOut := rfl
@[simp] theorem logRx_rxLog (b : Byte) : (s.logRx b).rxLog = s.rxLog ++ [b] := rfl
@[simp] theorem logRx_fault (b : Byte) : (s.logRx b).fault = s.fault := rfl
@[simp] theorem logRx_refused (b : Byte) : (s.logRx b).refused = s.refused := rfl
@[simp] theorem logRx_level (b : Byte) : (s.logRx b).level = s.level := rfl
@[simp] theorem logRx_queue (b : Byte) : (s.logRx b).queue = s.queue := rfl
@[simp] theorem logRx_program (b : Byte) : (s.logRx b).program = s.program := rfl
@[simp] theorem logRx_schedule (b : Byte) : (s.logRx b).schedule = s.schedule := rfl
@[simp] theorem logRx_draws (b : Byte) : (s.logRx b).draws = s.draws := rfl

/-! ### `State.configure`: `configure` -/

@[simp] theorem configure_params (c : BaudPair) : (s.configure c).params = s.params := rfl
@[simp] theorem configure_rx (c : BaudPair) : (s.configure c).rx = s.rx := rfl
@[simp] theorem configure_tx (c : BaudPair) : (s.configure c).tx = s.tx := rfl
@[simp] theorem configure_unit (c : BaudPair) : (s.configure c).unit = s.unit := rfl
@[simp] theorem configure_initialized (c : BaudPair) : (s.configure c).initialized = s.initialized := rfl
@[simp] theorem configure_txie (c : BaudPair) : (s.configure c).txie = s.txie := rfl
@[simp] theorem configure_rxie (c : BaudPair) : (s.configure c).rxie = s.rxie := rfl
@[simp] theorem configure_baudSel (c : BaudPair) : (s.configure c).baudSel = s.baudSel := rfl
@[simp] theorem configure_cfg (c : BaudPair) : (s.configure c).cfg = some c := rfl
@[simp] theorem configure_appPc (c : BaudPair) : (s.configure c).appPc = s.appPc := rfl
@[simp] theorem configure_appPhase (c : BaudPair) : (s.configure c).appPhase = s.appPhase := rfl
@[simp] theorem configure_wb (c : BaudPair) : (s.configure c).wb = s.wb := rfl
@[simp] theorem configure_res (c : BaudPair) : (s.configure c).res = s.res := rfl
@[simp] theorem configure_txRegEmpty (c : BaudPair) : (s.configure c).txRegEmpty = s.txRegEmpty := rfl
@[simp] theorem configure_txOut (c : BaudPair) : (s.configure c).txOut = s.txOut := rfl
@[simp] theorem configure_rxLog (c : BaudPair) : (s.configure c).rxLog = s.rxLog := rfl
@[simp] theorem configure_fault (c : BaudPair) : (s.configure c).fault = s.fault := rfl
@[simp] theorem configure_refused (c : BaudPair) : (s.configure c).refused = s.refused := rfl
@[simp] theorem configure_level (c : BaudPair) : (s.configure c).level = s.level := rfl
@[simp] theorem configure_queue (c : BaudPair) : (s.configure c).queue = s.queue := rfl
@[simp] theorem configure_program (c : BaudPair) : (s.configure c).program = s.program := rfl
@[simp] theorem configure_schedule (c : BaudPair) : (s.configure c).schedule = s.schedule := rfl
@[simp] theorem configure_draws (c : BaudPair) : (s.configure c).draws = s.draws := rfl

/-! ### `State.setBaudSel`: the write of `BAUD_SEL` -/

@[simp] theorem setBaudSel_params (i : BitVec 4) : (s.setBaudSel i).params = s.params := rfl
@[simp] theorem setBaudSel_rx (i : BitVec 4) : (s.setBaudSel i).rx = s.rx := rfl
@[simp] theorem setBaudSel_tx (i : BitVec 4) : (s.setBaudSel i).tx = s.tx := rfl
@[simp] theorem setBaudSel_unit (i : BitVec 4) : (s.setBaudSel i).unit = s.unit := rfl
@[simp] theorem setBaudSel_initialized (i : BitVec 4) : (s.setBaudSel i).initialized = s.initialized := rfl
@[simp] theorem setBaudSel_txie (i : BitVec 4) : (s.setBaudSel i).txie = s.txie := rfl
@[simp] theorem setBaudSel_rxie (i : BitVec 4) : (s.setBaudSel i).rxie = s.rxie := rfl
@[simp] theorem setBaudSel_baudSel (i : BitVec 4) : (s.setBaudSel i).baudSel = some i := rfl
@[simp] theorem setBaudSel_cfg (i : BitVec 4) : (s.setBaudSel i).cfg = s.cfg := rfl
@[simp] theorem setBaudSel_appPc (i : BitVec 4) : (s.setBaudSel i).appPc = s.appPc := rfl
@[simp] theorem setBaudSel_appPhase (i : BitVec 4) : (s.setBaudSel i).appPhase = s.appPhase := rfl
@[simp] theorem setBaudSel_wb (i : BitVec 4) : (s.setBaudSel i).wb = s.wb := rfl
@[simp] theorem setBaudSel_res (i : BitVec 4) : (s.setBaudSel i).res = s.res := rfl
@[simp] theorem setBaudSel_txRegEmpty (i : BitVec 4) : (s.setBaudSel i).txRegEmpty = s.txRegEmpty := rfl
@[simp] theorem setBaudSel_txOut (i : BitVec 4) : (s.setBaudSel i).txOut = s.txOut := rfl
@[simp] theorem setBaudSel_rxLog (i : BitVec 4) : (s.setBaudSel i).rxLog = s.rxLog := rfl
@[simp] theorem setBaudSel_fault (i : BitVec 4) : (s.setBaudSel i).fault = s.fault := rfl
@[simp] theorem setBaudSel_refused (i : BitVec 4) : (s.setBaudSel i).refused = s.refused := rfl
@[simp] theorem setBaudSel_level (i : BitVec 4) : (s.setBaudSel i).level = s.level := rfl
@[simp] theorem setBaudSel_queue (i : BitVec 4) : (s.setBaudSel i).queue = s.queue := rfl
@[simp] theorem setBaudSel_program (i : BitVec 4) : (s.setBaudSel i).program = s.program := rfl
@[simp] theorem setBaudSel_schedule (i : BitVec 4) : (s.setBaudSel i).schedule = s.schedule := rfl
@[simp] theorem setBaudSel_draws (i : BitVec 4) : (s.setBaudSel i).draws = s.draws := rfl

/-! ### `State.writeTxRegister`: `write_tx_register` -/

@[simp] theorem writeTxRegister_params (v : Byte) : (s.writeTxRegister v).params = s.params := rfl
@[simp] theorem writeTxRegister_rx (v : Byte) : (s.writeTxRegister v).rx = s.rx := rfl
@[simp] theorem writeTxRegister_tx (v : Byte) : (s.writeTxRegister v).tx = s.tx := rfl
@[simp] theorem writeTxRegister_unit (v : Byte) : (s.writeTxRegister v).unit = s.unit := rfl
@[simp] theorem writeTxRegister_initialized (v : Byte) : (s.writeTxRegister v).initialized = s.initialized := rfl
@[simp] theorem writeTxRegister_txie (v : Byte) : (s.writeTxRegister v).txie = s.txie := rfl
@[simp] theorem writeTxRegister_rxie (v : Byte) : (s.writeTxRegister v).rxie = s.rxie := rfl
@[simp] theorem writeTxRegister_baudSel (v : Byte) : (s.writeTxRegister v).baudSel = s.baudSel := rfl
@[simp] theorem writeTxRegister_cfg (v : Byte) : (s.writeTxRegister v).cfg = s.cfg := rfl
@[simp] theorem writeTxRegister_appPc (v : Byte) : (s.writeTxRegister v).appPc = s.appPc := rfl
@[simp] theorem writeTxRegister_appPhase (v : Byte) : (s.writeTxRegister v).appPhase = s.appPhase := rfl
@[simp] theorem writeTxRegister_wb (v : Byte) : (s.writeTxRegister v).wb = s.wb := rfl
@[simp] theorem writeTxRegister_res (v : Byte) : (s.writeTxRegister v).res = s.res := rfl
@[simp] theorem writeTxRegister_txRegEmpty (v : Byte) : (s.writeTxRegister v).txRegEmpty = false := rfl
@[simp] theorem writeTxRegister_txOut (v : Byte) : (s.writeTxRegister v).txOut = s.txOut ++ [v] := rfl
@[simp] theorem writeTxRegister_rxLog (v : Byte) : (s.writeTxRegister v).rxLog = s.rxLog := rfl
@[simp] theorem writeTxRegister_fault (v : Byte) : (s.writeTxRegister v).fault = s.fault := rfl
@[simp] theorem writeTxRegister_refused (v : Byte) : (s.writeTxRegister v).refused = s.refused := rfl
@[simp] theorem writeTxRegister_level (v : Byte) : (s.writeTxRegister v).level = s.level := rfl
@[simp] theorem writeTxRegister_queue (v : Byte) : (s.writeTxRegister v).queue = s.queue := rfl
@[simp] theorem writeTxRegister_program (v : Byte) : (s.writeTxRegister v).program = s.program := rfl
@[simp] theorem writeTxRegister_schedule (v : Byte) : (s.writeTxRegister v).schedule = s.schedule := rfl
@[simp] theorem writeTxRegister_draws (v : Byte) : (s.writeTxRegister v).draws = s.draws := rfl

/-! ### `State.txDone`: `TX_DONE` -/

@[simp] theorem txDone_params : s.txDone.params = s.params := rfl
@[simp] theorem txDone_rx : s.txDone.rx = s.rx := rfl
@[simp] theorem txDone_tx : s.txDone.tx = s.tx := rfl
@[simp] theorem txDone_unit : s.txDone.unit = s.unit := rfl
@[simp] theorem txDone_initialized : s.txDone.initialized = s.initialized := rfl
@[simp] theorem txDone_txie : s.txDone.txie = s.txie := rfl
@[simp] theorem txDone_rxie : s.txDone.rxie = s.rxie := rfl
@[simp] theorem txDone_baudSel : s.txDone.baudSel = s.baudSel := rfl
@[simp] theorem txDone_cfg : s.txDone.cfg = s.cfg := rfl
@[simp] theorem txDone_appPc : s.txDone.appPc = s.appPc := rfl
@[simp] theorem txDone_appPhase : s.txDone.appPhase = s.appPhase := rfl
@[simp] theorem txDone_wb : s.txDone.wb = s.wb := rfl
@[simp] theorem txDone_res : s.txDone.res = s.res := rfl
@[simp] theorem txDone_txRegEmpty : s.txDone.txRegEmpty = true := rfl
@[simp] theorem txDone_txOut : s.txDone.txOut = s.txOut := rfl
@[simp] theorem txDone_rxLog : s.txDone.rxLog = s.rxLog := rfl
@[simp] theorem txDone_fault : s.txDone.fault = s.fault := rfl
@[simp] theorem txDone_refused : s.txDone.refused = s.refused := rfl
@[simp] theorem txDone_level : s.txDone.level = s.level := rfl
@[simp] theorem txDone_queue : s.txDone.queue = s.queue := rfl
@[simp] theorem txDone_program : s.txDone.program = s.program := rfl
@[simp] theorem txDone_schedule : s.txDone.schedule = s.schedule := rfl
@[simp] theorem txDone_draws : s.txDone.draws = s.draws := rfl

/-! ### `State.setTxie`: the write of `TXIE` -/

@[simp] theorem setTxie_params (b : Bool) : (s.setTxie b).params = s.params := rfl
@[simp] theorem setTxie_rx (b : Bool) : (s.setTxie b).rx = s.rx := rfl
@[simp] theorem setTxie_tx (b : Bool) : (s.setTxie b).tx = s.tx := rfl
@[simp] theorem setTxie_unit (b : Bool) : (s.setTxie b).unit = s.unit := rfl
@[simp] theorem setTxie_initialized (b : Bool) : (s.setTxie b).initialized = s.initialized := rfl
@[simp] theorem setTxie_txie (b : Bool) : (s.setTxie b).txie = b := rfl
@[simp] theorem setTxie_rxie (b : Bool) : (s.setTxie b).rxie = s.rxie := rfl
@[simp] theorem setTxie_baudSel (b : Bool) : (s.setTxie b).baudSel = s.baudSel := rfl
@[simp] theorem setTxie_cfg (b : Bool) : (s.setTxie b).cfg = s.cfg := rfl
@[simp] theorem setTxie_appPc (b : Bool) : (s.setTxie b).appPc = s.appPc := rfl
@[simp] theorem setTxie_appPhase (b : Bool) : (s.setTxie b).appPhase = s.appPhase := rfl
@[simp] theorem setTxie_wb (b : Bool) : (s.setTxie b).wb = s.wb := rfl
@[simp] theorem setTxie_res (b : Bool) : (s.setTxie b).res = s.res := rfl
@[simp] theorem setTxie_txRegEmpty (b : Bool) : (s.setTxie b).txRegEmpty = s.txRegEmpty := rfl
@[simp] theorem setTxie_txOut (b : Bool) : (s.setTxie b).txOut = s.txOut := rfl
@[simp] theorem setTxie_rxLog (b : Bool) : (s.setTxie b).rxLog = s.rxLog := rfl
@[simp] theorem setTxie_fault (b : Bool) : (s.setTxie b).fault = s.fault := rfl
@[simp] theorem setTxie_refused (b : Bool) : (s.setTxie b).refused = s.refused := rfl
@[simp] theorem setTxie_level (b : Bool) : (s.setTxie b).level = s.level := rfl
@[simp] theorem setTxie_queue (b : Bool) : (s.setTxie b).queue = s.queue := rfl
@[simp] theorem setTxie_program (b : Bool) : (s.setTxie b).program = s.program := rfl
@[simp] theorem setTxie_schedule (b : Bool) : (s.setTxie b).schedule = s.schedule := rfl
@[simp] theorem setTxie_draws (b : Bool) : (s.setTxie b).draws = s.draws := rfl

/-! ### `State.enableRxie`: `RXIE <- 1` -/

@[simp] theorem enableRxie_params : s.enableRxie.params = s.params := rfl
@[simp] theorem enableRxie_rx : s.enableRxie.rx = s.rx := rfl
@[simp] theorem enableRxie_tx : s.enableRxie.tx = s.tx := rfl
@[simp] theorem enableRxie_unit : s.enableRxie.unit = s.unit := rfl
@[simp] theorem enableRxie_initialized : s.enableRxie.initialized = s.initialized := rfl
@[simp] theorem enableRxie_txie : s.enableRxie.txie = s.txie := rfl
@[simp] theorem enableRxie_rxie : s.enableRxie.rxie = true := rfl
@[simp] theorem enableRxie_baudSel : s.enableRxie.baudSel = s.baudSel := rfl
@[simp] theorem enableRxie_cfg : s.enableRxie.cfg = s.cfg := rfl
@[simp] theorem enableRxie_appPc : s.enableRxie.appPc = s.appPc := rfl
@[simp] theorem enableRxie_appPhase : s.enableRxie.appPhase = s.appPhase := rfl
@[simp] theorem enableRxie_wb : s.enableRxie.wb = s.wb := rfl
@[simp] theorem enableRxie_res : s.enableRxie.res = s.res := rfl
@[simp] theorem enableRxie_txRegEmpty : s.enableRxie.txRegEmpty = s.txRegEmpty := rfl
@[simp] theorem enableRxie_txOut : s.enableRxie.txOut = s.txOut := rfl
@[simp] theorem enableRxie_rxLog : s.enableRxie.rxLog = s.rxLog := rfl
@[simp] theorem enableRxie_fault : s.enableRxie.fault = s.fault := rfl
@[simp] theorem enableRxie_refused : s.enableRxie.refused = s.refused := rfl
@[simp] theorem enableRxie_level : s.enableRxie.level = s.level := rfl
@[simp] theorem enableRxie_queue : s.enableRxie.queue = s.queue := rfl
@[simp] theorem enableRxie_program : s.enableRxie.program = s.program := rfl
@[simp] theorem enableRxie_schedule : s.enableRxie.schedule = s.schedule := rfl
@[simp] theorem enableRxie_draws : s.enableRxie.draws = s.draws := rfl

/-! ### `State.setInitialized`: `initialized <- true` -/

@[simp] theorem setInitialized_params : s.setInitialized.params = s.params := rfl
@[simp] theorem setInitialized_rx : s.setInitialized.rx = s.rx := rfl
@[simp] theorem setInitialized_tx : s.setInitialized.tx = s.tx := rfl
@[simp] theorem setInitialized_unit : s.setInitialized.unit = s.unit := rfl
@[simp] theorem setInitialized_initialized : s.setInitialized.initialized = true := rfl
@[simp] theorem setInitialized_txie : s.setInitialized.txie = s.txie := rfl
@[simp] theorem setInitialized_rxie : s.setInitialized.rxie = s.rxie := rfl
@[simp] theorem setInitialized_baudSel : s.setInitialized.baudSel = s.baudSel := rfl
@[simp] theorem setInitialized_cfg : s.setInitialized.cfg = s.cfg := rfl
@[simp] theorem setInitialized_appPc : s.setInitialized.appPc = s.appPc := rfl
@[simp] theorem setInitialized_appPhase : s.setInitialized.appPhase = s.appPhase := rfl
@[simp] theorem setInitialized_wb : s.setInitialized.wb = s.wb := rfl
@[simp] theorem setInitialized_res : s.setInitialized.res = s.res := rfl
@[simp] theorem setInitialized_txRegEmpty : s.setInitialized.txRegEmpty = s.txRegEmpty := rfl
@[simp] theorem setInitialized_txOut : s.setInitialized.txOut = s.txOut := rfl
@[simp] theorem setInitialized_rxLog : s.setInitialized.rxLog = s.rxLog := rfl
@[simp] theorem setInitialized_fault : s.setInitialized.fault = s.fault := rfl
@[simp] theorem setInitialized_refused : s.setInitialized.refused = s.refused := rfl
@[simp] theorem setInitialized_level : s.setInitialized.level = s.level := rfl
@[simp] theorem setInitialized_queue : s.setInitialized.queue = s.queue := rfl
@[simp] theorem setInitialized_program : s.setInitialized.program = s.program := rfl
@[simp] theorem setInitialized_schedule : s.setInitialized.schedule = s.schedule := rfl
@[simp] theorem setInitialized_draws : s.setInitialized.draws = s.draws := rfl

/-! ### `State.recordFault`: the fault mark -/

@[simp] theorem recordFault_params (k : FaultKind) : (s.recordFault k).params = s.params := rfl
@[simp] theorem recordFault_rx (k : FaultKind) : (s.recordFault k).rx = s.rx := rfl
@[simp] theorem recordFault_tx (k : FaultKind) : (s.recordFault k).tx = s.tx := rfl
@[simp] theorem recordFault_unit (k : FaultKind) : (s.recordFault k).unit = s.unit := rfl
@[simp] theorem recordFault_initialized (k : FaultKind) : (s.recordFault k).initialized = s.initialized := rfl
@[simp] theorem recordFault_txie (k : FaultKind) : (s.recordFault k).txie = s.txie := rfl
@[simp] theorem recordFault_rxie (k : FaultKind) : (s.recordFault k).rxie = s.rxie := rfl
@[simp] theorem recordFault_baudSel (k : FaultKind) : (s.recordFault k).baudSel = s.baudSel := rfl
@[simp] theorem recordFault_cfg (k : FaultKind) : (s.recordFault k).cfg = s.cfg := rfl
@[simp] theorem recordFault_appPc (k : FaultKind) : (s.recordFault k).appPc = s.appPc := rfl
@[simp] theorem recordFault_appPhase (k : FaultKind) : (s.recordFault k).appPhase = s.appPhase := rfl
@[simp] theorem recordFault_wb (k : FaultKind) : (s.recordFault k).wb = s.wb := rfl
@[simp] theorem recordFault_res (k : FaultKind) : (s.recordFault k).res = s.res := rfl
@[simp] theorem recordFault_txRegEmpty (k : FaultKind) : (s.recordFault k).txRegEmpty = s.txRegEmpty := rfl
@[simp] theorem recordFault_txOut (k : FaultKind) : (s.recordFault k).txOut = s.txOut := rfl
@[simp] theorem recordFault_rxLog (k : FaultKind) : (s.recordFault k).rxLog = s.rxLog := rfl
@[simp] theorem recordFault_fault (k : FaultKind) : (s.recordFault k).fault = some k := rfl
@[simp] theorem recordFault_refused (k : FaultKind) : (s.recordFault k).refused = s.refused := rfl
@[simp] theorem recordFault_level (k : FaultKind) : (s.recordFault k).level = s.level := rfl
@[simp] theorem recordFault_queue (k : FaultKind) : (s.recordFault k).queue = s.queue := rfl
@[simp] theorem recordFault_program (k : FaultKind) : (s.recordFault k).program = s.program := rfl
@[simp] theorem recordFault_schedule (k : FaultKind) : (s.recordFault k).schedule = s.schedule := rfl
@[simp] theorem recordFault_draws (k : FaultKind) : (s.recordFault k).draws = s.draws := rfl

/-! ### `State.recordRefusal`: the refusal mark -/

@[simp] theorem recordRefusal_params (r : RefusalKind) : (s.recordRefusal r).params = s.params := rfl
@[simp] theorem recordRefusal_rx (r : RefusalKind) : (s.recordRefusal r).rx = s.rx := rfl
@[simp] theorem recordRefusal_tx (r : RefusalKind) : (s.recordRefusal r).tx = s.tx := rfl
@[simp] theorem recordRefusal_unit (r : RefusalKind) : (s.recordRefusal r).unit = s.unit := rfl
@[simp] theorem recordRefusal_initialized (r : RefusalKind) : (s.recordRefusal r).initialized = s.initialized := rfl
@[simp] theorem recordRefusal_txie (r : RefusalKind) : (s.recordRefusal r).txie = s.txie := rfl
@[simp] theorem recordRefusal_rxie (r : RefusalKind) : (s.recordRefusal r).rxie = s.rxie := rfl
@[simp] theorem recordRefusal_baudSel (r : RefusalKind) : (s.recordRefusal r).baudSel = s.baudSel := rfl
@[simp] theorem recordRefusal_cfg (r : RefusalKind) : (s.recordRefusal r).cfg = s.cfg := rfl
@[simp] theorem recordRefusal_appPc (r : RefusalKind) : (s.recordRefusal r).appPc = s.appPc := rfl
@[simp] theorem recordRefusal_appPhase (r : RefusalKind) : (s.recordRefusal r).appPhase = s.appPhase := rfl
@[simp] theorem recordRefusal_wb (r : RefusalKind) : (s.recordRefusal r).wb = s.wb := rfl
@[simp] theorem recordRefusal_res (r : RefusalKind) : (s.recordRefusal r).res = s.res := rfl
@[simp] theorem recordRefusal_txRegEmpty (r : RefusalKind) : (s.recordRefusal r).txRegEmpty = s.txRegEmpty := rfl
@[simp] theorem recordRefusal_txOut (r : RefusalKind) : (s.recordRefusal r).txOut = s.txOut := rfl
@[simp] theorem recordRefusal_rxLog (r : RefusalKind) : (s.recordRefusal r).rxLog = s.rxLog := rfl
@[simp] theorem recordRefusal_fault (r : RefusalKind) : (s.recordRefusal r).fault = s.fault := rfl
@[simp] theorem recordRefusal_refused (r : RefusalKind) : (s.recordRefusal r).refused = some r := rfl
@[simp] theorem recordRefusal_level (r : RefusalKind) : (s.recordRefusal r).level = s.level := rfl
@[simp] theorem recordRefusal_queue (r : RefusalKind) : (s.recordRefusal r).queue = s.queue := rfl
@[simp] theorem recordRefusal_program (r : RefusalKind) : (s.recordRefusal r).program = s.program := rfl
@[simp] theorem recordRefusal_schedule (r : RefusalKind) : (s.recordRefusal r).schedule = s.schedule := rfl
@[simp] theorem recordRefusal_draws (r : RefusalKind) : (s.recordRefusal r).draws = s.draws := rfl

/-! ### `State.setQueue`: the block-level sequence -/

@[simp] theorem setQueue_params (cs : List Command) : (s.setQueue cs).params = s.params := rfl
@[simp] theorem setQueue_rx (cs : List Command) : (s.setQueue cs).rx = s.rx := rfl
@[simp] theorem setQueue_tx (cs : List Command) : (s.setQueue cs).tx = s.tx := rfl
@[simp] theorem setQueue_unit (cs : List Command) : (s.setQueue cs).unit = s.unit := rfl
@[simp] theorem setQueue_initialized (cs : List Command) : (s.setQueue cs).initialized = s.initialized := rfl
@[simp] theorem setQueue_txie (cs : List Command) : (s.setQueue cs).txie = s.txie := rfl
@[simp] theorem setQueue_rxie (cs : List Command) : (s.setQueue cs).rxie = s.rxie := rfl
@[simp] theorem setQueue_baudSel (cs : List Command) : (s.setQueue cs).baudSel = s.baudSel := rfl
@[simp] theorem setQueue_cfg (cs : List Command) : (s.setQueue cs).cfg = s.cfg := rfl
@[simp] theorem setQueue_appPc (cs : List Command) : (s.setQueue cs).appPc = s.appPc := rfl
@[simp] theorem setQueue_appPhase (cs : List Command) : (s.setQueue cs).appPhase = s.appPhase := rfl
@[simp] theorem setQueue_wb (cs : List Command) : (s.setQueue cs).wb = s.wb := rfl
@[simp] theorem setQueue_res (cs : List Command) : (s.setQueue cs).res = s.res := rfl
@[simp] theorem setQueue_txRegEmpty (cs : List Command) : (s.setQueue cs).txRegEmpty = s.txRegEmpty := rfl
@[simp] theorem setQueue_txOut (cs : List Command) : (s.setQueue cs).txOut = s.txOut := rfl
@[simp] theorem setQueue_rxLog (cs : List Command) : (s.setQueue cs).rxLog = s.rxLog := rfl
@[simp] theorem setQueue_fault (cs : List Command) : (s.setQueue cs).fault = s.fault := rfl
@[simp] theorem setQueue_refused (cs : List Command) : (s.setQueue cs).refused = s.refused := rfl
@[simp] theorem setQueue_level (cs : List Command) : (s.setQueue cs).level = s.level := rfl
@[simp] theorem setQueue_queue (cs : List Command) : (s.setQueue cs).queue = cs := rfl
@[simp] theorem setQueue_program (cs : List Command) : (s.setQueue cs).program = s.program := rfl
@[simp] theorem setQueue_schedule (cs : List Command) : (s.setQueue cs).schedule = s.schedule := rfl
@[simp] theorem setQueue_draws (cs : List Command) : (s.setQueue cs).draws = s.draws := rfl

/-! ### `State.offer`: the platform's choice at a boundary -/

@[simp] theorem offer_params (m : Move) : (s.offer m).params = s.params := rfl
@[simp] theorem offer_rx (m : Move) : (s.offer m).rx = s.rx := rfl
@[simp] theorem offer_tx (m : Move) : (s.offer m).tx = s.tx := rfl
@[simp] theorem offer_unit (m : Move) : (s.offer m).unit = s.unit := rfl
@[simp] theorem offer_initialized (m : Move) : (s.offer m).initialized = s.initialized := rfl
@[simp] theorem offer_txie (m : Move) : (s.offer m).txie = s.txie := rfl
@[simp] theorem offer_rxie (m : Move) : (s.offer m).rxie = s.rxie := rfl
@[simp] theorem offer_baudSel (m : Move) : (s.offer m).baudSel = s.baudSel := rfl
@[simp] theorem offer_cfg (m : Move) : (s.offer m).cfg = s.cfg := rfl
@[simp] theorem offer_appPc (m : Move) : (s.offer m).appPc = s.appPc := rfl
@[simp] theorem offer_appPhase (m : Move) : (s.offer m).appPhase = s.appPhase := rfl
@[simp] theorem offer_wb (m : Move) : (s.offer m).wb = s.wb := rfl
@[simp] theorem offer_res (m : Move) : (s.offer m).res = s.res := rfl
@[simp] theorem offer_txRegEmpty (m : Move) : (s.offer m).txRegEmpty = s.txRegEmpty := rfl
@[simp] theorem offer_txOut (m : Move) : (s.offer m).txOut = s.txOut := rfl
@[simp] theorem offer_rxLog (m : Move) : (s.offer m).rxLog = s.rxLog := rfl
@[simp] theorem offer_fault (m : Move) : (s.offer m).fault = s.fault := rfl
@[simp] theorem offer_refused (m : Move) : (s.offer m).refused = s.refused := rfl
@[simp] theorem offer_level (m : Move) : (s.offer m).level = s.level := rfl
@[simp] theorem offer_queue (m : Move) : (s.offer m).queue = s.queue := rfl
@[simp] theorem offer_program (m : Move) : (s.offer m).program = s.program := rfl
@[simp] theorem offer_schedule (m : Move) : (s.offer m).schedule = [m] := rfl
@[simp] theorem offer_draws (m : Move) : (s.offer m).draws = s.draws := rfl

/-! ### `State.takeMove`: the use of a platform choice -/

@[simp] theorem takeMove_params : s.takeMove.params = s.params := rfl
@[simp] theorem takeMove_rx : s.takeMove.rx = s.rx := rfl
@[simp] theorem takeMove_tx : s.takeMove.tx = s.tx := rfl
@[simp] theorem takeMove_unit : s.takeMove.unit = s.unit := rfl
@[simp] theorem takeMove_initialized : s.takeMove.initialized = s.initialized := rfl
@[simp] theorem takeMove_txie : s.takeMove.txie = s.txie := rfl
@[simp] theorem takeMove_rxie : s.takeMove.rxie = s.rxie := rfl
@[simp] theorem takeMove_baudSel : s.takeMove.baudSel = s.baudSel := rfl
@[simp] theorem takeMove_cfg : s.takeMove.cfg = s.cfg := rfl
@[simp] theorem takeMove_appPc : s.takeMove.appPc = s.appPc := rfl
@[simp] theorem takeMove_appPhase : s.takeMove.appPhase = s.appPhase := rfl
@[simp] theorem takeMove_wb : s.takeMove.wb = s.wb := rfl
@[simp] theorem takeMove_res : s.takeMove.res = s.res := rfl
@[simp] theorem takeMove_txRegEmpty : s.takeMove.txRegEmpty = s.txRegEmpty := rfl
@[simp] theorem takeMove_txOut : s.takeMove.txOut = s.txOut := rfl
@[simp] theorem takeMove_rxLog : s.takeMove.rxLog = s.rxLog := rfl
@[simp] theorem takeMove_fault : s.takeMove.fault = s.fault := rfl
@[simp] theorem takeMove_refused : s.takeMove.refused = s.refused := rfl
@[simp] theorem takeMove_level : s.takeMove.level = s.level := rfl
@[simp] theorem takeMove_queue : s.takeMove.queue = s.queue := rfl
@[simp] theorem takeMove_program : s.takeMove.program = s.program := rfl
@[simp] theorem takeMove_schedule : s.takeMove.schedule = s.schedule.tail := rfl
@[simp] theorem takeMove_draws : s.takeMove.draws = s.draws + 1 := rfl

end Sys2Proof.Machine
end

