-- ==== Sys2Proof/Laws/Ops.lean ====
section
/-! SUPPORT. What each shared operation of the command meanings can answer: one inversion lemma each. -/

namespace Sys2Proof.Machine

theorem raiseFault_eq (k : FaultKind) (s : State) : raiseFault k s = .next (s.recordFault k) := rfl

theorem refuse_eq (r : RefusalKind) (s : State) : refuse r s = .next (s.recordRefusal r) := rfl

/-- `raise` changes the fault mark and nothing else. -/
theorem raiseFault_next {k : FaultKind} {s t : State} (h : raiseFault k s = .next t) : t = s.recordFault k := by
  cases h
  rfl

/-- `refuse` changes the refusal mark and nothing else. -/
theorem refuse_next {r : RefusalKind} {s t : State} (h : refuse r s = .next t) : t = s.recordRefusal r := by
  cases h
  rfl

theorem whenInitialized_true {c : Command} {s : State} (go : Host.Outcome State Fault Refusal) (h : s.initialized = true) :
    whenInitialized c s go = go := by simp [whenInitialized, h]

theorem whenInitialized_false {c : Command} {s : State} (go : Host.Outcome State Fault Refusal) (h : s.initialized = false) :
    whenInitialized c s go = raiseFault (.notInitialized c) s := by simp [whenInitialized, h]

theorem whenInitialized_cases {c : Command} {s : State} {go : Host.Outcome State Fault Refusal}
    {o : Host.Outcome State Fault Refusal} (h : whenInitialized c s go = o) :
    (s.initialized = true ∧ go = o) ∨ (s.initialized = false ∧ o = .next (s.recordFault (.notInitialized c))) := by
  by_cases hi : s.initialized = true
  · exact .inl ⟨hi, by rwa [whenInitialized_true go hi] at h⟩
  · have hi := Bool.eq_false_of_not_eq_true hi
    exact .inr ⟨hi, by rw [whenInitialized_false go hi] at h; exact h.symm⟩

/-- `running` lets a step through exactly in a live state (R222), and else stops or records `BadConfiguration`. -/
theorem running_next {s t : State} {go : Host.Outcome State Fault Refusal} (h : running s go = .next t) :
    s.fault = none ∧ s.refused = none ∧
    ((s.params.wf = true ∧ go = .next t) ∨
     (s.params.wf = false ∧ t = s.recordRefusal (.badConfiguration s.params))) := by
  unfold running at h
  split at h
  · cases h
  · cases h
  · next hf hr =>
    refine ⟨hf, hr, ?_⟩
    split at h
    · next hw => exact .inl ⟨hw, h⟩
    · next hw => exact .inr ⟨by simpa using hw, refuse_next h⟩

theorem running_live {s : State} (go : Host.Outcome State Fault Refusal) (hf : s.fault = none) (hr : s.refused = none)
    (hw : s.params.wf = true) : running s go = go := by simp [running, hf, hr, hw]

/-- The check-then-enable leaves `TXIE = 1` and nothing else changed (R153). -/
theorem checkThenEnable_eq (s : State) : s.checkThenEnable = s.setTxie true := by
  unfold State.checkThenEnable
  split
  · next h => cases s; simp_all [State.setTxie]
  · rfl

theorem disableIfEmpty_eq (s : State) :
    s.disableIfEmpty = s.setTxie (s.txie && !s.tx.empty) := by
  unfold State.disableIfEmpty
  split
  · next h => simp [h]
  · next h => cases s; simp_all [State.setTxie]

/-- Phase 2 as one update of the state (R153). -/
theorem wbPhase2_eq (s : State) : s.wbPhase2 = ((s.setTxie true).setPhase .idle).writeByteReturn true := by
  simp [State.wbPhase2, checkThenEnable_eq]

/-- Everything phase 1 can answer (R152, R154). -/
theorem wbPhase1_next {b : Byte} {s t : State} (h : wbPhase1 b s = .next t) :
    (inc s.params.kTx s.tx.head = s.tx.tail ∧ t = s.writeByteReturn false) ∨
    (inc s.params.kTx s.tx.head ≠ s.tx.tail ∧ s.tx.head < capacity s.params.kTx ∧
      ∃ B, B = { head := inc s.params.kTx s.tx.head, tail := s.tx.tail, slots := Memory.write s.tx.slots s.tx.head b } ∧
        ((s.level = .platform ∧ t = (s.setTx B).setPhase .enablePending) ∨
         (s.level ≠ .platform ∧ t = ((s.setTx B).setPhase .enablePending).wbPhase2))) := by
  unfold wbPhase1 at h
  split at h
  · next hp =>
    rcases push_cases hp with ⟨hc, _⟩ | ⟨_, _, e⟩ | ⟨_, _, e⟩
    · exact .inl ⟨hc, by cases h; rfl⟩
    · cases e
    · cases e
  · next B hp =>
    rcases push_cases hp with ⟨_, e⟩ | ⟨hc, hl, e⟩ | ⟨_, _, e⟩
    · cases e
    · refine .inr ⟨hc, hl, B, by cases e; rfl, ?_⟩
      split at h
      · next hp => exact .inl ⟨hp, by cases h; rfl⟩
      · next hp => exact .inr ⟨hp, by cases h; rfl⟩
    · cases e
  · cases h

end Sys2Proof.Machine
end

