-- ==== Sys2Proof/Laws/Step.lean ====
section
/-! SUPPORT. What a step can do: one inversion lemma for each part of the sequencer. -/

namespace Sys2Proof.Machine

/-- What issuing a command can answer (R104, R106, R224). -/
theorem issue_next {c : Command} {s t : State} (h : issue c s = .next t) :
    (∃ w why, c = .word w ∧ decode s.params.nb w = .illegal why ∧ t = s.recordRefusal (.illegalEncoding w)) ∨
    (∃ w i, c = .word w ∧ decode s.params.nb w = .ok i ∧ s.level.admits i.port = true ∧ exec i s = .next t) ∨
    (∃ w i, c = .word w ∧ decode s.params.nb w = .ok i ∧ s.level.admits i.port = false ∧
      t = s.recordRefusal (.wrongPort c s.level.issuePort)) ∨
    (∃ bytes, c = .writeBuffer bytes ∧ s.level.admits .app = true ∧ execWriteBuffer bytes s = .next t) ∨
    (∃ bytes, c = .writeBuffer bytes ∧ s.level.admits .app = false ∧
      t = s.recordRefusal (.wrongPort c s.level.issuePort)) := by
  cases c with
  | word w =>
    simp only [issue] at h
    split at h
    · next why hd => exact .inl ⟨w, why, rfl, hd, refuse_next h⟩
    · next i hd =>
      split at h
      · next ha => exact .inr (.inl ⟨w, i, rfl, hd, ha, h⟩)
      · next ha => exact .inr (.inr (.inl ⟨w, i, rfl, hd, by simpa using ha, refuse_next h⟩))
  | writeBuffer bytes =>
    simp only [issue] at h
    split at h
    · next ha => exact .inr (.inr (.inr (.inl ⟨bytes, rfl, ha, h⟩)))
    · next ha => exact .inr (.inr (.inr (.inr ⟨bytes, rfl, by simpa using ha, refuse_next h⟩)))

/-- The next command is the program's at the platform level and the sequence's at the block level (R18, R34). -/
theorem nextCommand_some {s u : State} {c : Command} (h : s.nextCommand = some (c, u)) :
    (s.level = .platform ∧ s.program[s.appPc]? = some c ∧ u = s) ∨
    (s.level ≠ .platform ∧ ∃ cs, s.queue = c :: cs ∧ u = s.setQueue cs) := by
  unfold State.nextCommand at h
  split at h
  · next hl =>
    simp only [Option.map_eq_some_iff, Prod.mk.injEq] at h
    obtain ⟨d, hd, rfl, rfl⟩ := h
    exact .inl ⟨hl, hd, rfl⟩
  · next hl =>
    split at h
    · cases h
    · next d cs hq =>
      simp only [Option.some.injEq, Prod.mk.injEq] at h
      obtain ⟨rfl, rfl⟩ := h
      exact .inr ⟨hl, cs, hq, rfl⟩

/-- What a step of the application can do (R231). -/
theorem appStep_next {s t : State} (h : appStep s = .next t) :
    (s.appPhase = .enablePending ∧ t = s.wbPhase2) ∨
    (s.appPhase = .idle ∧ ∃ p, s.wb = some p ∧ writeBufferIterate p s = .next t) ∨
    (s.appPhase = .idle ∧ s.wb = none ∧ s.nextCommand = none ∧ t = s) ∨
    (s.appPhase = .idle ∧ s.wb = none ∧ ∃ c u, s.nextCommand = some (c, u) ∧ issue c u = .next t) := by
  unfold appStep at h
  split at h
  · next hp => exact .inl ⟨hp, by cases h; rfl⟩
  · next hp =>
    split at h
    · next p hw => exact .inr (.inl ⟨hp, p, hw, h⟩)
    · next hw =>
      split at h
      · next hn => exact .inr (.inr (.inl ⟨hp, hw, hn, by cases h; rfl⟩))
      · next c u hn => exact .inr (.inr (.inr ⟨hp, hw, c, u, hn, h⟩))

/-- What a boundary of the platform can do (R242). -/
theorem platformStep_next {s t : State} (h : platformStep s = .next t) :
    (s.enabled s.nextMove = true ∧ runMove s.nextMove s.takeMove = .next t) ∨
    (s.enabled s.nextMove = false ∧ t = s.takeMove) := by
  unfold platformStep at h
  split at h
  · next he => exact .inl ⟨he, h⟩
  · next he => exact .inr ⟨by simpa using he, by cases h; rfl⟩

/-- What a step can do: record `BadConfiguration`, or, in a live state, step at its level (R18, R222, R224). -/
theorem step_next {s t : State} (h : step s = .next t) :
    s.fault = none ∧ s.refused = none ∧
    ((s.params.wf = false ∧ t = s.recordRefusal (.badConfiguration s.params)) ∨
     (s.params.wf = true ∧ s.level = .platform ∧ platformStep s = .next t) ∨
     (s.params.wf = true ∧ s.level ≠ .platform ∧ appStep s = .next t)) := by
  obtain ⟨hf, hr, ⟨hw, hg⟩ | hb⟩ := running_next h
  · refine ⟨hf, hr, .inr ?_⟩
    unfold levelStep at hg
    split at hg
    · next hl => exact .inl ⟨hw, hl, hg⟩
    · next hl => exact .inr ⟨hw, hl, hg⟩
  · exact ⟨hf, hr, .inl hb⟩

end Sys2Proof.Machine
end

