-- ==== Sys2Proof/Laws/Exec.lean ====
section
/-! SUPPORT. Everything that the meaning of each command can do when it answers a next state: one inversion lemma a
command, over the lemmas of the shared operations. -/

namespace Sys2Proof.Machine

/-- `INIT` (R151, R160). -/
theorem execInit_next {sel : BitVec 4} {s t : State} (h : execInit sel s = .next t) :
    (s.initialized = true ∧ t = s.recordRefusal (.reinitNotModelled (encode (.init sel)))) ∨
    (s.initialized = false ∧ t = (s.initialise sel).finish .unit) := by
  unfold execInit at h
  split at h
  · next hi => exact .inl ⟨hi, refuse_next h⟩
  · next hi => exact .inr ⟨by simpa using hi, by cases h; rfl⟩

/-- `WRITE_BYTE` (R154); `wbPhase1_next` says the rest. -/
theorem execWriteByte_next {b : Byte} {s t : State} (h : execWriteByte b s = .next t) :
    (s.initialized = false ∧ t = s.recordFault (.notInitialized (.word (encode (.writeByte b))))) ∨
    (s.initialized = true ∧ wbPhase1 b s = .next t) := by
  rcases whenInitialized_cases h with ⟨hi, hg⟩ | ⟨hi, e⟩
  · exact .inr ⟨hi, hg⟩
  · cases e
    exact .inl ⟨hi, rfl⟩

/-- `READ_BYTE` (R156). -/
theorem execReadByte_next {s t : State} (h : execReadByte s = .next t) :
    (s.initialized = false ∧ t = s.recordFault (.notInitialized (.word (encode .readByte)))) ∨
    (s.initialized = true ∧ s.rx.head = s.rx.tail ∧ t = s.finish (.optByte none)) ∨
    (s.initialized = true ∧ s.rx.head ≠ s.rx.tail ∧ ∃ v, s.rx.memRead s.rx.tail = some v ∧
      t = (s.setRx { head := s.rx.head, tail := inc s.params.kRx s.rx.tail, slots := s.rx.slots }).finish
        (.optByte (some v))) ∨
    (s.initialized = true ∧ s.rx.head ≠ s.rx.tail ∧ s.rx.memRead s.rx.tail = none ∧
      t = s.recordFault (.unwrittenSlot (.word (encode .readByte)) .rx s.rx.tail)) := by
  rcases whenInitialized_cases h with ⟨hi, hg⟩ | ⟨hi, e⟩
  · cases hp : s.rx.pop s.params.kRx with
    | empty =>
      rcases pop_cases hp with ⟨h1, _⟩ | ⟨_, _, _, _, e⟩ | ⟨_, _, _, e⟩ | ⟨_, _, e⟩ <;> try cases e
      rw [hp] at hg
      exact .inr (.inl ⟨hi, h1, by cases hg; rfl⟩)
    | taken v B =>
      rcases pop_cases hp with ⟨_, e⟩ | ⟨h1, _, w, h3, e⟩ | ⟨_, _, _, e⟩ | ⟨_, _, e⟩ <;> cases e
      rw [hp] at hg
      exact .inr (.inr (.inl ⟨hi, h1, v, h3, by cases hg; rfl⟩))
    | unwritten i =>
      rcases pop_cases hp with ⟨_, e⟩ | ⟨_, _, _, _, e⟩ | ⟨h1, _, h3, e⟩ | ⟨_, _, e⟩ <;> cases e
      rw [hp] at hg
      exact .inr (.inr (.inr ⟨hi, h1, h3, raiseFault_next hg⟩))
    | noSlot i =>
      rw [hp] at hg
      cases hg
  · cases e
    exact .inl ⟨hi, rfl⟩

/-- `AVAILABLE` (R157). -/
theorem execAvailable_next {s t : State} (h : execAvailable s = .next t) :
    (s.initialized = false ∧ t = s.recordFault (.notInitialized (.word (encode .available)))) ∨
    (s.initialized = true ∧ t = s.finish (.nat (s.rx.available s.params.kRx))) := by
  rcases whenInitialized_cases h with ⟨hi, hg⟩ | ⟨hi, e⟩
  · exact .inr ⟨hi, by cases hg; rfl⟩
  · exact .inl ⟨hi, by cases e; rfl⟩

/-- `FLUSH_RX` (R158). -/
theorem execFlushRx_next {s t : State} (h : execFlushRx s = .next t) :
    (s.initialized = false ∧ t = s.recordFault (.notInitialized (.word (encode .flushRx)))) ∨
    (s.initialized = true ∧ t = (s.setRx s.rx.clear).finish .unit) := by
  rcases whenInitialized_cases h with ⟨hi, hg⟩ | ⟨hi, e⟩
  · exact .inr ⟨hi, by cases hg; rfl⟩
  · exact .inl ⟨hi, by cases e; rfl⟩

/-- `RX_EVENT` (R191, R192). -/
theorem execRxEvent_next {b : Byte} {s t : State} (h : execRxEvent b s = .next t) :
    (s.initialized = false ∧ t = s.recordFault (.notInitialized (.word (encode (.rxEvent b))))) ∨
    (s.initialized = true ∧ inc s.params.kRx s.rx.head = s.rx.tail ∧ t = s.logRx b) ∨
    (s.initialized = true ∧ inc s.params.kRx s.rx.head ≠ s.rx.tail ∧ s.rx.head < capacity s.params.kRx ∧
      t = (s.logRx b).setRx
        { head := inc s.params.kRx s.rx.head, tail := s.rx.tail, slots := Memory.write s.rx.slots s.rx.head b }) := by
  rcases whenInitialized_cases h with ⟨hi, hg⟩ | ⟨hi, e⟩
  · cases hp : s.rx.push s.params.kRx (readRxRegister b) with
    | full =>
      rcases push_cases hp with ⟨h1, _⟩ | ⟨_, _, e⟩ | ⟨_, _, e⟩ <;> try cases e
      rw [hp] at hg
      exact .inr (.inl ⟨hi, h1, by cases hg; rfl⟩)
    | stored B =>
      rcases push_cases hp with ⟨_, e⟩ | ⟨h1, h2, e⟩ | ⟨_, _, e⟩ <;> cases e
      rw [hp] at hg
      exact .inr (.inr ⟨hi, h1, h2, by cases hg; rfl⟩)
    | noSlot i =>
      rw [hp] at hg
      cases hg
  · cases e
    exact .inl ⟨hi, rfl⟩

/-- `TX_READY` (R193, R195). -/
theorem execTxReady_next {s t : State} (h : execTxReady s = .next t) :
    (s.initialized = false ∧ t = s.recordFault (.notInitialized (.word (encode .txReady)))) ∨
    (s.initialized = true ∧ s.tx.head = s.tx.tail ∧ t = s.setTxie false) ∨
    (s.initialized = true ∧ s.tx.head ≠ s.tx.tail ∧ ∃ v, s.tx.memRead s.tx.tail = some v ∧
      ∃ B : RingBuffer, B = { head := s.tx.head, tail := inc s.params.kTx s.tx.tail, slots := s.tx.slots } ∧
        t = ((s.setTx B).writeTxRegister v).setTxie (s.txie && !B.empty)) ∨
    (s.initialized = true ∧ s.tx.head ≠ s.tx.tail ∧ s.tx.memRead s.tx.tail = none ∧
      t = s.recordFault (.unwrittenSlot (.word (encode .txReady)) .tx s.tx.tail)) := by
  rcases whenInitialized_cases h with ⟨hi, hg⟩ | ⟨hi, e⟩
  · cases hp : s.tx.pop s.params.kTx with
    | empty =>
      rcases pop_cases hp with ⟨h1, _⟩ | ⟨_, _, _, _, e⟩ | ⟨_, _, _, e⟩ | ⟨_, _, e⟩ <;> try cases e
      rw [hp] at hg
      exact .inr (.inl ⟨hi, h1, by cases hg; rfl⟩)
    | taken v B =>
      rcases pop_cases hp with ⟨_, e⟩ | ⟨h1, _, w, h3, e⟩ | ⟨_, _, _, e⟩ | ⟨_, _, e⟩ <;> cases e
      rw [hp] at hg
      exact .inr (.inr (.inl ⟨hi, h1, v, h3, _, rfl, by cases hg; rw [disableIfEmpty_eq]; rfl⟩))
    | unwritten i =>
      rcases pop_cases hp with ⟨_, e⟩ | ⟨_, _, _, _, e⟩ | ⟨h1, _, h3, e⟩ | ⟨_, _, e⟩ <;> cases e
      rw [hp] at hg
      exact .inr (.inr (.inr ⟨hi, h1, h3, raiseFault_next hg⟩))
    | noSlot i =>
      rw [hp] at hg
      cases hg
  · cases e
    exact .inl ⟨hi, rfl⟩

/-- `PUSH` (R123). -/
theorem execPush_next {b : Byte} {s t : State} (h : execPush b s = .next t) :
    (inc s.params.kUnit s.unit.head = s.unit.tail ∧ t = s.setRes (.bool false)) ∨
    (inc s.params.kUnit s.unit.head ≠ s.unit.tail ∧ s.unit.head < capacity s.params.kUnit ∧
      t = (s.setUnit
        { head := inc s.params.kUnit s.unit.head, tail := s.unit.tail,
          slots := Memory.write s.unit.slots s.unit.head b }).setRes (.bool true)) := by
  unfold execPush at h
  cases hp : s.unit.push s.params.kUnit b with
  | full =>
    rcases push_cases hp with ⟨h1, _⟩ | ⟨_, _, e⟩ | ⟨_, _, e⟩ <;> try cases e
    rw [hp] at h
    exact .inl ⟨h1, by cases h; rfl⟩
  | stored B =>
    rcases push_cases hp with ⟨_, e⟩ | ⟨h1, h2, e⟩ | ⟨_, _, e⟩ <;> cases e
    rw [hp] at h
    exact .inr ⟨h1, h2, by cases h; rfl⟩
  | noSlot i =>
    rw [hp] at h
    cases h

/-- `POP` (R124). -/
theorem execPop_next {s t : State} (h : execPop s = .next t) :
    (s.unit.head = s.unit.tail ∧ t = s.setRes (.optByte none)) ∨
    (s.unit.head ≠ s.unit.tail ∧ ∃ v, s.unit.memRead s.unit.tail = some v ∧
      t = (s.setUnit
        { head := s.unit.head, tail := inc s.params.kUnit s.unit.tail, slots := s.unit.slots }).setRes
        (.optByte (some v))) ∨
    (s.unit.head ≠ s.unit.tail ∧ s.unit.memRead s.unit.tail = none ∧
      t = s.recordFault (.unwrittenSlot (.word (encode .pop)) .unit s.unit.tail)) := by
  unfold execPop at h
  cases hp : s.unit.pop s.params.kUnit with
  | empty =>
    rcases pop_cases hp with ⟨h1, _⟩ | ⟨_, _, _, _, e⟩ | ⟨_, _, _, e⟩ | ⟨_, _, e⟩ <;> try cases e
    rw [hp] at h
    exact .inl ⟨h1, by cases h; rfl⟩
  | taken v B =>
    rcases pop_cases hp with ⟨_, e⟩ | ⟨h1, _, w, h3, e⟩ | ⟨_, _, _, e⟩ | ⟨_, _, e⟩ <;> cases e
    rw [hp] at h
    exact .inr (.inl ⟨h1, v, h3, by cases h; rfl⟩)
  | unwritten i =>
    rcases pop_cases hp with ⟨_, e⟩ | ⟨_, _, _, _, e⟩ | ⟨h1, _, h3, e⟩ | ⟨_, _, e⟩ <;> cases e
    rw [hp] at h
    exact .inr (.inr ⟨h1, h3, raiseFault_next h⟩)
  | noSlot i =>
    rw [hp] at h
    cases h

/-- `AVAIL` (R125). -/
theorem execAvail_next {s t : State} (h : execAvail s = .next t) :
    t = s.setRes (.nat (s.unit.available s.params.kUnit)) := by
  cases h
  rfl

/-- `CLEAR` (R126). -/
theorem execClear_next {s t : State} (h : execClear s = .next t) : t = (s.setUnit s.unit.clear).setRes .unit := by
  cases h
  rfl

/-- The first step of an iteration of `WRITE_BUFFER` (R155). -/
theorem writeBufferIterate_next {p : WriteProgress} {s t : State} (h : writeBufferIterate p s = .next t) :
    (p.rest = [] ∧ t = (s.setWb none).finish (.nat p.count)) ∨
    (∃ b rest, p.rest = b :: rest ∧ wbPhase1 b s = .next t) := by
  unfold writeBufferIterate at h
  split at h
  · next hr => exact .inl ⟨hr, by cases h; rfl⟩
  · next b rest hr => exact .inr ⟨b, rest, hr, h⟩

/-- `WRITE_BUFFER` (R155). -/
theorem execWriteBuffer_next {bytes : List Byte} {s t : State} (h : execWriteBuffer bytes s = .next t) :
    (s.initialized = false ∧ t = s.recordFault (.notInitialized (.writeBuffer bytes))) ∨
    (s.initialized = true ∧ s.level = .platform ∧
      writeBufferIterate { rest := bytes, count := 0 } (s.setWb (some { rest := bytes, count := 0 })) = .next t) ∨
    (s.initialized = true ∧ s.level ≠ .platform ∧ writeBufferRun bytes 0 s = .next t) := by
  rcases whenInitialized_cases h with ⟨hi, hg⟩ | ⟨hi, e⟩
  · split at hg
    · next hl => exact .inr (.inl ⟨hi, hl, hg⟩)
    · next hl => exact .inr (.inr ⟨hi, hl, hg⟩)
  · exact .inl ⟨hi, by cases e; rfl⟩

/-- The whole loop keeps what each first step of an iteration keeps: the one induction over `WRITE_BUFFER`'s list. -/
theorem writeBufferRun_keeps (P : State → Prop)
    (hwb : ∀ s w, P s → P (s.setWb w))
    (hit : ∀ p s t, P s → s.wb = some p → writeBufferIterate p s = .next t → P t) :
    ∀ (bytes : List Byte) (c : Nat) (s t : State), P s → writeBufferRun bytes c s = .next t → P t := by
  intro bytes
  induction bytes with
  | nil =>
    intro c s t hs h
    exact hit _ _ _ (hwb s _ hs) rfl h
  | cons b rest ih =>
    intro c s t hs h
    unfold writeBufferRun at h
    split at h
    · next u hu =>
      have hP : P u := hit _ _ _ (hwb s _ hs) rfl hu
      split at h
      · cases h
        exact hP
      · exact ih _ _ _ hP h
    · next hno => exact (hno t h).elim

end Sys2Proof.Machine
end

