-- ==== Sys2Proof/Laws/PerInstr.lean ====
section
/-! SUPPORT. Statements for all instructions, one lemma a constructor. `EncodedRow`: the word of an instruction belongs to
the row of R93 to R103 that has the instruction's mnemonic. -/

namespace Sys2Proof.Laws.EncodedRow

/-- The row is found by mnemonic, and it covers the encoded word (R111). -/
def Statement (i : Instr) : Prop := ∃ r ∈ rows, r.mnemonic = i.mnemonic ∧ encode i &&& r.mask = r.pattern

theorem init (sel : BitVec 4) : Statement (.init sel) :=
  ⟨⟨"INIT", 0x1000, 0xF0FF⟩, by simp [rows], rfl, by revert sel; decide⟩
theorem writeByte (b : Byte) : Statement (.writeByte b) :=
  ⟨⟨"WRITE_BYTE", 0x2000, 0xFF00⟩, by simp [rows], rfl, by revert b; decide⟩
theorem readByte : Statement .readByte := ⟨⟨"READ_BYTE", 0x3000, 0xFFFF⟩, by simp [rows], rfl, by decide⟩
theorem available : Statement .available := ⟨⟨"AVAILABLE", 0x4000, 0xFFFF⟩, by simp [rows], rfl, by decide⟩
theorem flushRx : Statement .flushRx := ⟨⟨"FLUSH_RX", 0x5000, 0xFFFF⟩, by simp [rows], rfl, by decide⟩
theorem rxEvent (b : Byte) : Statement (.rxEvent b) :=
  ⟨⟨"RX_EVENT", 0x8000, 0xFF00⟩, by simp [rows], rfl, by revert b; decide⟩
theorem txReady : Statement .txReady := ⟨⟨"TX_READY", 0x9000, 0xFFFF⟩, by simp [rows], rfl, by decide⟩
theorem push (b : Byte) : Statement (.push b) :=
  ⟨⟨"PUSH", 0xC000, 0xFF00⟩, by simp [rows], rfl, by revert b; decide⟩
theorem pop : Statement .pop := ⟨⟨"POP", 0xD000, 0xFFFF⟩, by simp [rows], rfl, by decide⟩
theorem avail : Statement .avail := ⟨⟨"AVAIL", 0xE000, 0xFFFF⟩, by simp [rows], rfl, by decide⟩
theorem clear : Statement .clear := ⟨⟨"CLEAR", 0xF000, 0xFFFF⟩, by simp [rows], rfl, by decide⟩

end Sys2Proof.Laws.EncodedRow
end

