-- ==== Sys2Proof/Laws/Run.lean ====
section
/-! SUPPORT. What offering a choice leaves as it was, and what one boundary of a platform run can do (R242). -/

namespace Sys2Proof.Machine

@[simp] theorem isDuty_app : Move.isDuty .app = true := rfl
@[simp] theorem isDuty_rxEvent (b : Byte) : Move.isDuty (.rxEvent b) = false := rfl
@[simp] theorem isDuty_txReady : Move.isDuty .txReady = true := rfl
@[simp] theorem isDuty_txDone : Move.isDuty .txDone = true := rfl

@[simp] theorem offer_nextMove (s : State) (m : Move) : (s.offer m).nextMove = m := rfl
@[simp] theorem offer_enabled (s : State) (m m' : Move) : (s.offer m).enabled m' = s.enabled m' := by cases m' <;> rfl
@[simp] theorem takeMove_enabled (s : State) (m : Move) : s.takeMove.enabled m = s.enabled m := by cases m <;> rfl
@[simp] theorem takeMove_complete (s : State) : s.takeMove.complete = s.complete := rfl

/-- A step that is enabled has no mark in its state (R222, R228, R229). -/
theorem unmarked_of_enabled {s : State} {m : Move} (h : s.enabled m = true) : ¬ s.marked := by
  cases m <;> simp_all [State.enabled, State.appEnabled, State.rxGate, State.txGate, State.marked]

/-- A marked state takes no step (R222). -/
theorem not_next_of_marked {s t : State} (hm : s.marked) : step s ≠ .next t := by
  intro h
  obtain ⟨hf, hr, -⟩ := step_next h
  exact hm.elim (absurd hf) (absurd hr)

/-- One boundary of a run: the chosen step runs if it is enabled and is passed over if not, a bad configuration is refused,
or the state takes no step and is repeated. -/
theorem run_boundary {r : Nat → State} {ms : Nat → Move} (h : IsPlatformRun r ms) {n : Nat} (hl : (r n).level = .platform) :
    ((r n).live ∧ (r n).enabled (ms n) = true ∧ runMove (ms n) ((r n).offer (ms n)).takeMove = .next (r (n + 1))) ∨
    ((r n).live ∧ (r n).enabled (ms n) = false ∧ r (n + 1) = ((r n).offer (ms n)).takeMove) ∨
    ((r n).params.wf = false ∧ (r (n + 1)).marked) ∨
    ((∀ t, step ((r n).offer (ms n)) ≠ .next t) ∧ r (n + 1) = r n) := by
  rcases h.2 n with hs | hs
  · obtain ⟨hf, hr, ⟨hw, ht⟩ | ⟨hw, -, hp⟩ | ⟨-, hl', -⟩⟩ := step_next hs
    · exact .inr (.inr (.inl ⟨hw, by rw [ht]; exact .inr nofun⟩))
    · rcases platformStep_next hp with ⟨he, hm⟩ | ⟨he, ht⟩
      · exact .inl ⟨⟨hf, hr, hw⟩, by simpa using he, hm⟩
      · exact .inr (.inl ⟨⟨hf, hr, hw⟩, by simpa using he, ht⟩)
    · exact absurd hl hl'
  · exact .inr (.inr (.inr hs))

end Sys2Proof.Machine
end

