-- ==== Sys2Proof/Tests/Slice0.lean ====
section
/-! SUPPORT. The model's own tests. Expected results are those of 95_test_vectors.md (`N = 4` unless a test says otherwise),
and a `test_hyps_…` theorem shows that the hypotheses of the statement it names can be met together. -/

namespace Sys2Proof.Tests

open Sys2Proof.Machine

/-! ### Helpers -/

/-- The outcome is a next state of which `p` holds. -/
def nextAnd (o : Host.Outcome State Fault Refusal) (p : State → Bool) : Bool :=
  match o with
  | .next t => p t
  | _ => false

/-- The vectors' configuration: four slots in each buffer. -/
def smallParams : Params := { kRx := 2, kTx := 2, kUnit := 2, atomicBits := 2, baudRates := [9600, 19200] }

/-- Power-on with four slots in each buffer. -/
def powerOn : State := { State.reset with params := smallParams }

/-- After `INIT 0`. -/
def ready : State :=
  { powerOn with initialized := true, rxie := true, baudSel := some 0, cfg := some (baudPair 0) }

/-- A buffer with the listed slots written. -/
def buf (h t : Nat) (m : List (Nat × Byte)) : RingBuffer := { head := h, tail := t, slots := m }

/-- A full buffer of four slots whose indices have wrapped. -/
def wrapped : RingBuffer := buf 0 1 [(0, 0x50), (1, 0x20), (2, 0x30), (3, 0x40)]

/-- One byte waits to be sent, and the transmit interrupt is enabled. -/
def sending : State := { ready with tx := buf 1 0 [(0, 0x41)], txie := true }

/-- The platform level with one choice written down. -/
def choosing (s : State) (m : Move) : State := { s with level := .platform, schedule := [m] }

/-! ### Well-formedness -/

theorem test_wf_refuses_selector_five : Instr.wf 5 (.init 5) = false ∧ Instr.wf 5 (.init 4) = true := by decide

theorem test_wf_refuses_zero_capacity :
    Params.wf { smallParams with kRx := 0 } = false ∧ Params.wf { smallParams with kTx := 0 } = false ∧
    Params.wf { smallParams with kUnit := 0 } = false ∧ Params.wf smallParams = true := by decide

theorem test_wf_refuses_wide_index :
    Params.wf { smallParams with kRx := 3 } = false ∧ Params.wf { smallParams with kTx := 3 } = false := by decide

theorem test_wf_refuses_rate_count :
    Params.wf { smallParams with baudRates := [] } = false ∧
    Params.wf { smallParams with baudRates := List.replicate 17 9600 } = false ∧
    Params.wf { smallParams with baudRates := List.replicate 16 9600 } = true := by decide

theorem test_default_params_are_well_formed : Config.defaultParams.wf = true := by decide

/-! ### Decoding (95_test_vectors.md section 2.1) -/

theorem test_decode_app_words :
    decode 5 0x1000 = .ok (.init 0) ∧ decode 5 0x1400 = .ok (.init 4) ∧ decode 5 0x2000 = .ok (.writeByte 0x00) ∧
    decode 5 0x20FF = .ok (.writeByte 0xFF) ∧ decode 5 0x3000 = .ok .readByte ∧ decode 5 0x4000 = .ok .available ∧
    decode 5 0x5000 = .ok .flushRx := by decide

theorem test_decode_irq_words : decode 5 0x8041 = .ok (.rxEvent 0x41) ∧ decode 5 0x9000 = .ok .txReady := by decide

theorem test_decode_unit_words :
    decode 5 0xC000 = .ok (.push 0x00) ∧ decode 5 0xD000 = .ok .pop ∧ decode 5 0xE000 = .ok .avail ∧
    decode 5 0xF000 = .ok .clear := by decide

theorem test_decode_illegal_opcode :
    decode 5 0x0000 = .illegal .opcode ∧ decode 5 0x6000 = .illegal .opcode ∧ decode 5 0x7000 = .illegal .opcode ∧
    decode 5 0xA000 = .illegal .opcode ∧ decode 5 0xB000 = .illegal .opcode := by decide

theorem test_decode_illegal_fields :
    decode 5 0x1500 = .illegal .selector ∧ decode 5 0x1F00 = .illegal .selector ∧
    decode 5 0x1001 = .illegal .dataNotZero ∧ decode 5 0x2100 = .illegal .argNotZero ∧
    decode 5 0x3080 = .illegal .dataNotZero ∧ decode 5 0x9100 = .illegal .argNotZero ∧
    decode 5 0xFFFF = .illegal .argNotZero := by decide

theorem test_decodeTableWord : decodeTableWord 16 0x2041 = some (.writeByte 0x41) ∧ decodeTableWord 16 0x1500 = none := by
  decide

/-! ### Assembler (R108, R109) -/

theorem test_assemble_lines :
    (parseLine "write_byte 0x41 ; a comment".toList).bind (assemble Config.defaultParams) = some (some (.word 0x2041)) ∧
    (parseLine "init 115200".toList).bind (assemble Config.defaultParams) = some (some (.word 0x1400)) ∧
    (parseLine "init #4".toList).bind (assemble Config.defaultParams) = some (some (.word 0x1400)) ∧
    (parseLine "rx_event 65".toList).bind (assemble Config.defaultParams) = some (some (.word 0x8041)) ∧
    (parseLine "clear".toList).bind (assemble Config.defaultParams) = some (some (.word 0xF000)) := by decide

theorem test_assemble_write_buffer :
    (parseLine "write_buffer 0xA1, 0xA2".toList).bind (assemble Config.defaultParams) =
      some (some (.writeBuffer [0xA1, 0xA2])) ∧
    (parseLine "write_buffer".toList).bind (assemble Config.defaultParams) = some (some (.writeBuffer [])) ∧
    writeBufferWords [0xA1, 0xA2] = [0x20A1, 0x20A2] := by decide

theorem test_assembler_refuses :
    parseLine "write_byte 256".toList = none ∧ parseLine "pop 1".toList = none ∧ parseLine "jump".toList = none ∧
    (parseLine "init 300".toList).bind (assemble Config.defaultParams) = none := by decide

/-! ### Memory -/

theorem test_reset_memory_is_canonical :
    Memory.wf State.reset.rx.slots ∧ Memory.wf State.reset.tx.slots ∧ Memory.wf State.reset.unit.slots := by decide

theorem test_memory_write_keeps_order : Memory.write [(0, 1), (3, 2)] 1 7 = [(0, 1), (1, 7), (3, 2)] := by decide

/-! ### The unit's commands (vectors U3, U4, U6, U5, U7, U9, U13, U14) -/

theorem test_push_wraps_head :
    nextAnd (exec (.push 0x40) { powerOn with unit := buf 3 1 [] })
      (fun t => t.unit = buf 0 1 [(3, 0x40)] && t.res = some (.bool true)) = true := by decide

theorem test_push_full_after_wrap :
    nextAnd (exec (.push 0x60) { powerOn with unit := wrapped })
      (fun t => t.unit = wrapped && t.res = some (.bool false)) = true := by decide

theorem test_pop_wraps_tail :
    nextAnd (exec .pop { powerOn with unit := buf 0 3 [(3, 0x40)] })
      (fun t => t.unit = buf 0 0 [(3, 0x40)] && t.res = some (.optByte (some 0x40))) = true := by decide

theorem test_pop_empty :
    nextAnd (exec .pop { powerOn with unit := buf 2 2 [] })
      (fun t => t.unit = buf 2 2 [] && t.res = some (.optByte none)) = true := by decide

theorem test_avail_wrapped :
    nextAnd (exec .avail { powerOn with unit := wrapped }) (fun t => t.res = some (.nat 3)) = true := by decide

theorem test_avail_of_64_slots :
    nextAnd (exec .avail { State.reset with unit := buf 5 60 [] }) (fun t => t.res = some (.nat 9)) = true := by decide

theorem test_clear_discards :
    nextAnd (exec .clear { powerOn with unit := buf 2 3 [(3, 0x10)] })
      (fun t => t.unit = buf 0 0 [(3, 0x10)] && t.res = some .unit) = true := by decide

theorem test_clear_moves_empty_indices :
    nextAnd (exec .clear { powerOn with unit := buf 1 1 [] }) (fun t => t.unit = buf 0 0 []) = true := by decide

/-! ### The application port (vectors A1, A2, A5, A7, A10, A12, A4, A13, A14, A9) -/

theorem test_init :
    nextAnd (exec (.init 0) powerOn)
      (fun t => t.rx = buf 0 0 [] && t.tx = buf 0 0 [] && !t.txie && t.rxie && t.initialized && t.baudSel = some 0 &&
        t.res = some .unit) = true := by decide

theorem test_second_init_is_refused :
    nextAnd (exec (.init 1) ready) (fun t => t.refused = some (.reinitNotModelled 0x1100) && t.baudSel = some 0) = true := by
  decide

theorem test_write_byte_enables :
    nextAnd (exec (.writeByte 0x41) ready)
      (fun t => t.tx = buf 1 0 [(0, 0x41)] && t.txie && t.res = some (.bool true) && t.appPhase = .idle) = true := by decide

theorem test_write_byte_full :
    nextAnd (exec (.writeByte 0x44) { ready with tx := buf 3 0 [], txie := true })
      (fun t => t.tx = buf 3 0 [] && t.txie && t.res = some (.bool false)) = true := by decide

theorem test_write_buffer_stops :
    nextAnd (execWriteBuffer [1, 2, 3, 4, 5] ready)
      (fun t => t.tx = buf 3 0 [(0, 1), (1, 2), (2, 3)] && t.txie && t.res = some (.nat 3) && t.wb = none) = true := by
  decide

theorem test_write_buffer_empty :
    nextAnd (execWriteBuffer [] ready) (fun t => t.tx = buf 0 0 [] && !t.txie && t.res = some (.nat 0)) = true := by decide

theorem test_read_byte_oldest_first :
    nextAnd (exec .readByte { ready with rx := buf 2 0 [(0, 0x11), (1, 0x22)] })
      (fun t => t.rx = buf 2 1 [(0, 0x11), (1, 0x22)] && t.res = some (.optByte (some 0x11))) = true := by decide

theorem test_read_byte_before_init :
    nextAnd (exec .readByte powerOn) (fun t => t.fault = some (.notInitialized (.word 0x3000)) && t.res = none) = true := by
  decide

theorem test_available_wrapped :
    nextAnd (exec .available { ready with rx := wrapped }) (fun t => t.res = some (.nat 3)) = true := by decide

theorem test_flush_rx :
    nextAnd (exec .flushRx { ready with rx := wrapped, txie := true })
      (fun t => t.rx.head = 0 && t.rx.tail = 0 && t.rx.slots = wrapped.slots && t.txie && t.res = some .unit) = true := by
  decide

/-! ### The interrupt port (vectors I3, I4, I6, I5) -/

theorem test_rx_event_wraps :
    nextAnd (exec (.rxEvent 0x05) { ready with rx := buf 3 1 [] })
      (fun t => t.rx = buf 0 1 [(3, 0x05)] && t.rxLog = [0x05] && t.res = none) = true := by decide

theorem test_rx_event_drops_newest :
    nextAnd (exec (.rxEvent 0x06) { ready with rx := wrapped }) (fun t => t.rx = wrapped && t.rxLog = [0x06]) = true := by
  decide

theorem test_tx_ready_last_byte_disables :
    nextAnd (exec .txReady sending)
      (fun t => t.tx = buf 1 1 [(0, 0x41)] && t.txOut = [0x41] && !t.txRegEmpty && !t.txie) = true := by decide

theorem test_tx_ready_empty_at_entry :
    nextAnd (exec .txReady { ready with txie := true }) (fun t => !t.txie && t.txOut = [] && t.txRegEmpty) = true := by
  decide

/-! ### Steps (vectors G1 to G6, programs P2 and P4) -/

theorem test_withFetchWord_runs :
    nextAnd (step (State.reset.withFetchWord 16 0xC010)) (fun t => t.unit = buf 1 0 [(0, 0x10)] && t.level = .unit) = true ∧
    nextAnd (step (State.reset.withFetchWord 16 0x1400)) (fun t => t.initialized && t.baudSel = some 4) = true := by decide

theorem test_gates :
    (powerOn.enabled (.rxEvent 0) = false ∧ powerOn.enabled .txReady = false ∧ powerOn.enabled .txDone = false) ∧
    (ready.enabled (.rxEvent 0) = true ∧ ready.enabled .txReady = false) ∧
    (sending.enabled .txReady = true ∧ sending.enabled .txDone = false) ∧
    (({ sending with txRegEmpty := false } : State).enabled .txReady = false ∧
      ({ sending with txRegEmpty := false } : State).enabled .txDone = true) ∧
    ({ sending with fault := some (.unwrittenSlot (.word 0x9000) .tx 0) } : State).enabled .txReady = false := by decide

theorem test_platform_phase_one_waits :
    nextAnd (step (choosing { sending with program := [.word 0x2042] } .app))
      (fun t => t.tx = buf 2 0 [(0, 0x41), (1, 0x42)] && t.appPhase = .enablePending && t.appPc = 0 && t.res = none) = true := by
  decide

theorem test_platform_spurious_enable :
    nextAnd (step (choosing { ready with tx := buf 2 2 [], appPhase := .enablePending, program := [.word 0x2042] } .app))
      (fun t => t.txie && t.tx.empty && t.appPhase = .idle && t.appPc = 1 && t.res = some (.bool true)) = true := by decide

theorem test_loadProgram_starts_at_the_first_command :
    nextAnd (step (({ sending with appPc := 7 } : State).loadProgram [.word 0x4000] [.app]))
      (fun t => t.res = some (.nat 0) && t.appPc = 1 && t.txie) = true := by decide

theorem test_unwritten_slot_records_the_word :
    nextAnd (exec .pop { powerOn with unit := buf 1 0 [] })
      (fun t => t.fault = some (.unwrittenSlot (.word 0xD000) .unit 0)) = true := by decide

theorem test_unit_command_in_driver_sequence :
    nextAnd (issue (.word 0xD000) ready) (fun t => t.refused = some (.wrongPort (.word 0xD000) .app)) = true := by decide

/-! ### The hypotheses of the statements can be met -/

theorem test_hyps_DecodeOfEncodeIsIdentity :
    Instr.wf 5 (.init 4) = true ∧ Instr.wf 16 (.init 15) = true ∧ Instr.wf 1 (.push 0xFF) = true := by decide

theorem test_hyps_EncodeOfDecodeIsIdentity :
    decode 16 0x1F00 = .ok (.init 15) ∧ decode 5 0x20FF = .ok (.writeByte 0xFF) := by decide

theorem test_hyps_DecoderFollowsMatchAndMask :
    decode 5 0x1400 = .ok (.init 4) ∧
    (∃ r ∈ rows, r.covers 0x1400 ∧ (r.mnemonic = "INIT" → (argField 0x1400).toNat < 5)) ∧
    (∃ r ∈ rows, ∃ r' ∈ rows, r.covers 0xF000 ∧ r'.covers 0xF000) :=
  ⟨by decide, ⟨⟨"INIT", 0x1000, 0xF0FF⟩, by decide, by unfold Row.covers; decide⟩,
    ⟨⟨"CLEAR", 0xF000, 0xFFFF⟩, by decide, ⟨"CLEAR", 0xF000, 0xFFFF⟩, by decide, by unfold Row.covers; decide⟩⟩

theorem test_hyps_IllegalWordsAreRefused :
    decode State.reset.params.nb 0x1500 = .illegal .selector ∧ decode State.reset.params.nb 0xFFFF = .illegal .argNotZero := by
  decide

theorem test_hyps_AssemblerSelectsTheRate :
    rateSelector Config.defaultParams 115200 = some 4 ∧ rateSelector Config.defaultParams 9600 = some 0 := by decide

theorem test_hyps_StepRunsTheDecodedCommand :
    (∃ s : State, s.live ∧ s.appIdle ∧ decode s.params.nb 0x9000 = .ok .txReady ∧
      s.level.admits Instr.txReady.port = true ∧ s.level ≠ .platform ∧ s.queue = .word 0x9000 :: []) ∧
    (∃ s : State, s.live ∧ s.appIdle ∧ decode s.params.nb 0x3000 = .ok .readByte ∧
      s.level.admits Instr.readByte.port = true ∧ s.level = .platform ∧ s.nextMove = .app ∧
      s.program[s.appPc]? = some (.word 0x3000)) := by
  unfold State.live State.appIdle
  exact ⟨⟨{ ready with queue := [.word 0x9000] }, by decide⟩,
    ⟨choosing { ready with program := [.word 0x3000] } .app, by decide⟩⟩

theorem test_hyps_StepRunsWriteBuffer :
    (∃ s : State, s.live ∧ s.appIdle ∧ s.level = .driver ∧ s.queue = .writeBuffer [1] :: []) ∧
    (∃ s : State, s.live ∧ s.appIdle ∧ s.level = .platform ∧ s.nextMove = .app ∧
      s.program[s.appPc]? = some (.writeBuffer [1])) := by
  unfold State.live State.appIdle
  exact ⟨⟨{ ready with queue := [.writeBuffer [1]] }, by decide⟩,
    ⟨choosing { ready with program := [.writeBuffer [1]] } .app, by decide⟩⟩

theorem test_hyps_ChosenStepIsTaken :
    (∃ s : State, s.live ∧ s.level = .platform ∧ s.nextMove = .rxEvent 0xFF ∧ s.enabled (.rxEvent 0xFF) = true) ∧
    (∃ s : State, s.live ∧ s.level = .platform ∧ s.nextMove = .txReady ∧ s.enabled .txReady = true) ∧
    (∃ s : State, s.live ∧ s.level = .platform ∧ s.nextMove = .txDone ∧ s.enabled .txDone = true) ∧
    (∃ s : State, s.live ∧ s.level = .platform ∧ s.nextMove = .app ∧ s.enabled .app = true) ∧
    (∃ s : State, s.live ∧ s.level = .platform ∧ s.enabled s.nextMove = false) := by
  unfold State.live
  exact ⟨⟨choosing ready (.rxEvent 0xFF), by decide⟩, ⟨choosing sending .txReady, by decide⟩,
    ⟨choosing { ready with txRegEmpty := false } .txDone, by decide⟩,
    ⟨choosing { ready with program := [.word 0x4000] } .app, by decide⟩, ⟨choosing ready .txReady, by decide⟩⟩

theorem test_hyps_TxDoneEmptiesTheRegister : ∃ s : State, s.fault = none ∧ s.refused = none ∧ s.txRegEmpty = false :=
  ⟨{ ready with txRegEmpty := false }, by decide⟩

theorem test_hyps_MarkedStateIsStuck : (∃ s : State, s.fault ≠ none) ∧ (∃ s : State, s.fault = none ∧ s.refused ≠ none) :=
  ⟨⟨{ ready with fault := some (.unwrittenSlot (.word 0x3000) .rx 0) }, by decide⟩,
    ⟨{ ready with refused := some (.illegalEncoding 0) }, by decide⟩⟩

/-- The states of the seven ways a configuration is outside R7 to R9. -/
def badStates : List State :=
  [ { powerOn with params := { smallParams with kRx := 0 } }, { powerOn with params := { smallParams with kTx := 0 } },
    { powerOn with params := { smallParams with kUnit := 0 } }, { powerOn with params := { smallParams with kRx := 3 } },
    { powerOn with params := { smallParams with kTx := 3 } }, { powerOn with params := { smallParams with baudRates := [] } },
    { powerOn with params := { smallParams with baudRates := List.replicate 17 1 } } ]

theorem test_hyps_BadConfigurationIsRefusedFirst :
    ∀ s ∈ badStates, s.fault = none ∧ s.refused = none ∧
      (s.params.kRx < 1 ∨ s.params.kTx < 1 ∨ s.params.kUnit < 1 ∨ s.params.atomicBits < s.params.kRx ∨
        s.params.atomicBits < s.params.kTx ∨ s.params.baudRates.length = 0 ∨ 16 < s.params.baudRates.length) := by decide

theorem test_hyps_WrongPortIsRefused :
    (∃ s : State, decode s.params.nb 0xE000 = .ok .avail ∧ s.level = .driver ∧ Instr.avail.port = .unit) ∧
    (∃ s : State, decode s.params.nb 0x9000 = .ok .txReady ∧ s.level = .unit ∧ Instr.txReady.port ≠ .unit) ∧
    (∃ s : State, decode s.params.nb 0x9000 = .ok .txReady ∧ s.level = .platform ∧ Instr.txReady.port ≠ .app) :=
  ⟨⟨ready, by decide⟩, ⟨{ ready with level := .unit }, by decide⟩, ⟨{ ready with level := .platform }, by decide⟩⟩

/-- A state inside the invariant whose three buffers are in use and whose next step is `TX_READY`. -/
def busy : State := choosing { sending with rx := wrapped, unit := wrapped } .txReady

theorem test_wrapped_ok : wrapped.Ok 2 :=
  ⟨by decide, by decide, by decide, by decide, by decide⟩

theorem test_busy_inv : busy.Inv :=
  ⟨test_wrapped_ok, ⟨by decide, by decide, by decide, by decide, by decide⟩, test_wrapped_ok,
    ⟨rfl, rfl, rfl, fun _ h => by cases h; decide, (fun h => nomatch h), (fun h => nomatch h)⟩⟩

theorem test_hyps_EveryStepKeepsTheInvariant : ∃ s t : State, s.Inv ∧ step s = .next t := ⟨busy, _, test_busy_inv, rfl⟩

theorem test_hyps_NoMissedWakeup : ∃ s t : State, s.NoStranded ∧ step s = .next t ∧ s.initialized = true ∧ s.tx.empty = false :=
  ⟨busy, _, fun _ _ _ => rfl, rfl, rfl, by decide⟩

theorem test_hyps_OutboundStreamOnlyGrows :
    ∃ s t : State, s.Inv ∧ s.initialized = true ∧ step s = .next t ∧ s.level = .platform ∧ s.nextMove ≠ .app :=
  ⟨busy, _, test_busy_inv, rfl, rfl, rfl, by decide⟩

theorem test_hyps_BlockLevelFlagTracksBuffer : ∃ s t : State, s.FlagTracksBuffer ∧ s.initialized = true ∧ step s = .next t :=
  ⟨{ sending with queue := [.word 0x9000] }, _, ⟨by decide, rfl, rfl, fun _ => by decide⟩, rfl, rfl⟩

theorem test_hyps_ConfigurationAndProgramAreFixed : ∃ s t : State, step s = .next t := ⟨busy, _, rfl⟩

theorem test_hyps_InitialisationIsForGood : ∃ s t : State, s.initialized = true ∧ step s = .next t := ⟨busy, _, rfl, rfl⟩

theorem test_hyps_CompleteWhenNoDutyIsEnabled :
    (∃ s : State, s.fault = none ∧ s.refused = none ∧ s.initialized = true ∧ s.NoStranded ∧
      s.appPc ≤ s.program.length ∧ s.complete = true) ∧
    (∃ s : State, s.fault = none ∧ s.refused = none ∧ s.initialized = true ∧ s.NoStranded ∧
      s.appPc ≤ s.program.length ∧ s.complete = false) :=
  ⟨⟨ready, rfl, rfl, rfl, fun _ _ h => absurd h (by decide), by decide, by decide⟩,
    ⟨busy, rfl, rfl, rfl, fun _ _ _ => rfl, by decide, by decide⟩⟩

theorem test_busy_live : busy.live := by unfold State.live; decide

theorem test_hyps_InterruptsLeaveTheApplicationAlone :
    ∃ s t : State, s.live ∧ s.level = .platform ∧ s.nextMove ≠ .app ∧ step s = .next t :=
  ⟨busy, _, test_busy_live, rfl, by decide, rfl⟩

theorem test_hyps_SingleWriterRoles :
    (∃ s t : State, s.live ∧ s.level = .platform ∧ s.initialized = true ∧ step s = .next t ∧ s.nextMove ≠ .app) ∧
    (∃ s t : State, s.live ∧ s.level = .platform ∧ s.initialized = true ∧ step s = .next t ∧ s.nextMove = .app) :=
  ⟨⟨busy, _, test_busy_live, rfl, rfl, rfl, by decide⟩,
    ⟨choosing { ready with program := [.word 0x2041] } .app, _, by unfold State.live; decide, rfl, rfl, rfl, rfl⟩⟩

theorem test_hyps_CountNeverOverstates :
    ∃ s t : State, s.Inv ∧ s.level = .platform ∧ s.nextMove ≠ .app ∧ step s = .next t :=
  ⟨busy, _, test_busy_inv, rfl, by decide, rfl⟩

theorem test_hyps_RingBufferIsABoundedQueue : ∃ (k : Nat) (B : RingBuffer), B.Ok k ∧ B.available k = 2 ^ k - 1 :=
  ⟨2, wrapped, test_wrapped_ok, by decide⟩

theorem test_hyps_UsableCapacityIsOneLess : wrapped.head < 2 ^ 2 ∧ wrapped.tail < 2 ^ 2 ∧ wrapped.full 2 = true := by decide

theorem test_hyps_FifoOrderLaw :
    ∃ s : State, s.unit.Ok s.params.kUnit ∧ s.unit.empty = true ∧
      ([0x10, 0x20, 0x30] : List Byte).length ≤ 2 ^ s.params.kUnit - 1 ∧
      ∀ i ∈ [Instr.push 0x10, .avail, .pop], isPushPopAvail i = true :=
  ⟨powerOn, ⟨by decide, by decide, by decide, by decide, by decide⟩, by decide⟩

theorem test_hyps_CountLaw :
    ∃ s : State, s.unit.Ok s.params.kUnit ∧ s.unit.empty = true ∧
      ([0x10, 0x20, 0x30] : List Byte).length = 2 ^ s.params.kUnit - 1 :=
  ⟨powerOn, ⟨by decide, by decide, by decide, by decide, by decide⟩, by decide⟩

theorem test_hyps_PushStoresAtTheHead :
    (∃ s : State, s.unit.head < 2 ^ s.params.kUnit ∧ (s.unit.head + 1) % 2 ^ s.params.kUnit = s.unit.tail) ∧
    (∃ s : State, s.unit.head < 2 ^ s.params.kUnit ∧ (s.unit.head + 1) % 2 ^ s.params.kUnit ≠ s.unit.tail) :=
  ⟨⟨{ powerOn with unit := buf 3 0 [] }, by decide⟩, ⟨{ powerOn with unit := buf 3 1 [] }, by decide⟩⟩

theorem test_hyps_PopTakesFromTheTail :
    (∃ s : State, s.unit.tail < 2 ^ s.params.kUnit ∧ s.unit.head = s.unit.tail) ∧
    (∃ s : State, s.unit.tail < 2 ^ s.params.kUnit ∧ s.unit.head ≠ s.unit.tail ∧
      s.unit.memRead s.unit.tail = some 0x40) ∧
    (∃ s : State, s.unit.tail < 2 ^ s.params.kUnit ∧ s.unit.head ≠ s.unit.tail ∧ s.unit.memRead s.unit.tail = none) :=
  ⟨⟨{ powerOn with unit := buf 3 3 [] }, by decide⟩, ⟨{ powerOn with unit := buf 0 3 [(3, 0x40)] }, by decide⟩,
    ⟨{ powerOn with unit := buf 0 3 [] }, by decide⟩⟩

theorem test_hyps_InitConfiguresOnce :
    (∃ s : State, s.initialized = true) ∧ (∃ s : State, s.initialized = false ∧ s.level = .platform) :=
  ⟨⟨ready, rfl⟩, ⟨{ powerOn with level := .platform }, rfl, rfl⟩⟩

theorem test_hyps_CommandsBeforeInitFault :
    ∃ (s : State) (i : Instr), s.initialized = false ∧ i.port ≠ .unit ∧ ∀ sel, i ≠ .init sel :=
  ⟨powerOn, .txReady, rfl, by decide, by decide⟩

theorem test_hyps_WriteByteAtBlockLevel :
    (∃ s : State, s.initialized = true ∧ s.level ≠ .platform ∧ s.appIdle ∧ s.tx.head < 2 ^ s.params.kTx ∧
      (s.tx.head + 1) % 2 ^ s.params.kTx = s.tx.tail) ∧
    (∃ s : State, s.initialized = true ∧ s.level ≠ .platform ∧ s.appIdle ∧ s.tx.head < 2 ^ s.params.kTx ∧
      (s.tx.head + 1) % 2 ^ s.params.kTx ≠ s.tx.tail) := by
  unfold State.appIdle
  exact ⟨⟨{ ready with tx := buf 3 0 [] }, by decide⟩, ⟨{ ready with tx := buf 3 1 [] }, by decide⟩⟩

theorem test_hyps_WriteBytePhaseOne :
    (∃ s : State, s.initialized = false) ∧
    (∃ s : State, s.initialized = true ∧ s.level = .platform ∧ s.appIdle ∧ s.tx.head < 2 ^ s.params.kTx ∧
      (s.tx.head + 1) % 2 ^ s.params.kTx = s.tx.tail) ∧
    (∃ s : State, s.initialized = true ∧ s.level = .platform ∧ s.appIdle ∧ s.tx.head < 2 ^ s.params.kTx ∧
      (s.tx.head + 1) % 2 ^ s.params.kTx ≠ s.tx.tail) := by
  unfold State.appIdle
  exact ⟨⟨powerOn, rfl⟩, ⟨{ ready with level := .platform, tx := buf 3 0 [] }, by decide⟩,
    ⟨{ ready with level := .platform, tx := buf 3 1 [] }, by decide⟩⟩

theorem test_hyps_WriteBytePhaseTwo :
    (∃ s : State, s.level = .platform ∧ s.appPhase = .enablePending ∧ s.wb = none) ∧
    (∃ s : State, s.level = .platform ∧ s.appPhase = .enablePending ∧ s.wb = some ⟨[0x42], 0⟩) :=
  ⟨⟨choosing { sending with appPhase := .enablePending } .app, by decide⟩,
    ⟨choosing { sending with appPhase := .enablePending, wb := some ⟨[0x42], 0⟩ } .app, by decide⟩⟩

theorem test_hyps_WriteBufferCountsWhatFits :
    ∃ s : State, s.initialized = true ∧ s.level ≠ .platform ∧ s.appIdle ∧ s.tx.Ok s.params.kTx ∧
      s.tx.available s.params.kTx = 2 ^ s.params.kTx - 1 := by
  unfold State.appIdle
  exact ⟨{ ready with tx := wrapped }, rfl, by decide, by decide, test_wrapped_ok, by decide⟩

theorem test_hyps_WriteBufferIterates :
    (∃ s : State, s.level = .platform ∧ s.appPhase = .idle ∧ s.wb = some ⟨[], 3⟩) ∧
    (∃ s : State, s.level = .platform ∧ s.appPhase = .idle ∧ s.wb = some ⟨[0x44], 3⟩ ∧
      (s.tx.head + 1) % 2 ^ s.params.kTx = s.tx.tail) ∧
    (∃ s : State, s.level = .platform ∧ s.appPhase = .idle ∧ s.wb = some ⟨[0x44], 0⟩ ∧
      s.tx.head < 2 ^ s.params.kTx ∧ (s.tx.head + 1) % 2 ^ s.params.kTx ≠ s.tx.tail) :=
  ⟨⟨choosing { sending with wb := some ⟨[], 3⟩ } .app, by decide⟩,
    ⟨choosing { ready with tx := wrapped, txie := true, wb := some ⟨[0x44], 3⟩ } .app, by decide⟩,
    ⟨choosing { ready with tx := buf 3 1 [], wb := some ⟨[0x44], 0⟩ } .app, by decide⟩⟩

theorem test_hyps_PlatformRefinesBlockLevel :
    (∃ s t : State, s.initialized = true ∧ s.level = .driver ∧ s.appIdle ∧ exec (.writeByte 0x41) s = .next t) ∧
    (∃ s t : State, s.initialized = true ∧ s.level = .driver ∧ s.appIdle ∧ execWriteBuffer [1, 2, 3, 4] s = .next t) := by
  unfold State.appIdle
  exact ⟨⟨ready, _, rfl, rfl, by decide, rfl⟩, ⟨ready, _, rfl, rfl, by decide, rfl⟩⟩

theorem test_hyps_ReadByteTakesTheOldest :
    (∃ s : State, s.initialized = false) ∧
    (∃ s : State, s.initialized = true ∧ s.rx.tail < 2 ^ s.params.kRx ∧ s.rx.head = s.rx.tail) ∧
    (∃ s : State, s.initialized = true ∧ s.rx.tail < 2 ^ s.params.kRx ∧ s.rx.head ≠ s.rx.tail ∧
      s.rx.memRead s.rx.tail = some 0x41) ∧
    (∃ s : State, s.initialized = true ∧ s.rx.tail < 2 ^ s.params.kRx ∧ s.rx.head ≠ s.rx.tail ∧
      s.rx.memRead s.rx.tail = none) :=
  ⟨⟨powerOn, rfl⟩, ⟨{ ready with rx := buf 3 3 [] }, by decide⟩, ⟨{ ready with rx := buf 0 3 [(3, 0x41)] }, by decide⟩,
    ⟨{ ready with rx := buf 0 3 [] }, by decide⟩⟩

theorem test_hyps_AvailableCountsInbound : ∃ s : State, s.initialized = true ∧ s.rx.head < s.rx.tail :=
  ⟨{ ready with rx := wrapped }, by decide⟩

theorem test_hyps_FlushRxClearsInbound : (∃ s : State, s.initialized = false) ∧ (∃ s : State, s.initialized = true) :=
  ⟨⟨powerOn, rfl⟩, ⟨ready, rfl⟩⟩

theorem test_hyps_RxEventStoresTheByte :
    (∃ s : State, s.initialized = false) ∧
    (∃ s : State, s.initialized = true ∧ s.rx.head < 2 ^ s.params.kRx ∧
      (s.rx.head + 1) % 2 ^ s.params.kRx = s.rx.tail) ∧
    (∃ s : State, s.initialized = true ∧ s.rx.head < 2 ^ s.params.kRx ∧
      (s.rx.head + 1) % 2 ^ s.params.kRx ≠ s.rx.tail) :=
  ⟨⟨powerOn, rfl⟩, ⟨{ ready with rx := buf 3 0 [] }, by decide⟩, ⟨{ ready with rx := buf 3 1 [] }, by decide⟩⟩

theorem test_hyps_RxOverflowIsSilent :
    ∃ s : State, s.initialized = true ∧ s.rx.Ok s.params.kRx ∧ 1 ≤ s.params.kRx ∧
      s.rx.available s.params.kRx = 2 ^ s.params.kRx - 1 :=
  ⟨{ ready with rx := wrapped }, rfl, test_wrapped_ok, by decide⟩

theorem test_hyps_TxReadyDrainsOrDisables :
    (∃ s : State, s.initialized = false) ∧
    (∃ s : State, s.initialized = true ∧ s.tx.tail < 2 ^ s.params.kTx ∧ s.tx.head = s.tx.tail) ∧
    (∃ s : State, s.initialized = true ∧ s.tx.tail < 2 ^ s.params.kTx ∧ s.tx.head ≠ s.tx.tail ∧
      s.tx.memRead s.tx.tail = some 0x77) ∧
    (∃ s : State, s.initialized = true ∧ s.tx.tail < 2 ^ s.params.kTx ∧ s.tx.head ≠ s.tx.tail ∧
      s.tx.memRead s.tx.tail = none) :=
  ⟨⟨powerOn, rfl⟩, ⟨{ ready with tx := buf 3 3 [] }, by decide⟩, ⟨{ ready with tx := buf 0 3 [(3, 0x77)] }, by decide⟩,
    ⟨{ ready with tx := buf 0 3 [] }, by decide⟩⟩

theorem test_hyps_EmptyingDisablesTransmit :
    ∃ s t : State, s.initialized = true ∧ exec .txReady s = .next t ∧ t.tx.empty = true :=
  ⟨sending, _, rfl, rfl, by decide⟩

theorem test_hyps_TxReadyEndsTheLevel : ∃ s : State, s.initialized = true ∧ s.tx.Ok s.params.kTx ∧ s.txRequest = true :=
  ⟨sending, rfl, ⟨by decide, by decide, by decide, by decide, by decide⟩, rfl⟩

theorem test_hyps_HandlerKeepsItsRoles : ∃ (i : Instr) (s t : State), i.port = .irq ∧ exec i s = .next t :=
  ⟨.txReady, sending, _, rfl, rfl⟩

theorem test_hyps_TransmitFlagMoves :
    (∃ (i : Instr) (s t : State), exec i s = .next t ∧ s.txie = false ∧ t.txie = true) ∧
    (∃ (i : Instr) (s t : State), exec i s = .next t ∧ s.txie = true ∧ t.txie = false) :=
  ⟨⟨.writeByte 0, ready, _, rfl, rfl, rfl⟩, ⟨.txReady, sending, _, rfl, rfl, rfl⟩⟩

theorem test_hyps_StoringCommandsFrame :
    (∃ s t : State, exec (.push 1) s = .next t) ∧
    (∃ s t : State, s.initialized = true ∧ exec (.rxEvent 1) s = .next t) ∧
    (∃ s t : State, s.initialized = true ∧ exec (.writeByte 1) s = .next t) :=
  ⟨⟨ready, _, rfl⟩, ⟨ready, _, rfl, rfl⟩, ⟨ready, _, rfl, rfl⟩⟩

theorem test_hyps_OtherCommandsStoreNothing :
    ∃ (i : Instr) (s t : State), (∀ b, i ≠ .push b ∧ i ≠ .rxEvent b ∧ i ≠ .writeByte b) ∧ exec i s = .next t :=
  ⟨.clear, ready, _, by decide, rfl⟩

theorem test_hyps_IndexOutOfRangeStops :
    (∃ s : State, 2 ^ s.params.kUnit ≤ s.unit.head ∧ (s.unit.head + 1) % 2 ^ s.params.kUnit ≠ s.unit.tail) ∧
    (∃ s : State, 2 ^ s.params.kUnit ≤ s.unit.tail ∧ s.unit.head ≠ s.unit.tail) ∧
    (∃ s : State, s.initialized = true ∧ 2 ^ s.params.kRx ≤ s.rx.head ∧
      (s.rx.head + 1) % 2 ^ s.params.kRx ≠ s.rx.tail) ∧
    (∃ s : State, s.initialized = true ∧ 2 ^ s.params.kRx ≤ s.rx.tail ∧ s.rx.head ≠ s.rx.tail) ∧
    (∃ s : State, s.initialized = true ∧ 2 ^ s.params.kTx ≤ s.tx.head ∧
      (s.tx.head + 1) % 2 ^ s.params.kTx ≠ s.tx.tail) ∧
    (∃ s : State, s.initialized = true ∧ 2 ^ s.params.kTx ≤ s.tx.tail ∧ s.tx.head ≠ s.tx.tail) :=
  ⟨⟨{ ready with unit := buf 4 0 [] }, by decide⟩, ⟨{ ready with unit := buf 0 4 [] }, by decide⟩,
    ⟨{ ready with rx := buf 4 0 [] }, by decide⟩, ⟨{ ready with rx := buf 0 4 [] }, by decide⟩,
    ⟨{ ready with tx := buf 4 0 [] }, by decide⟩, ⟨{ ready with tx := buf 0 4 [] }, by decide⟩⟩

theorem test_hyps_WaitsEndOnlyByDuties :
    (∃ s t : State, s.live ∧ s.level = .platform ∧ Move.isDuty s.nextMove = false ∧ step s = .next t) ∧
    (∃ s t : State, step s = .next t ∧ s.txRegEmpty = false ∧ t.txRegEmpty = true) :=
  ⟨⟨choosing sending (.rxEvent 0xFF), _, by unfold State.live; decide, rfl, rfl, rfl⟩,
    ⟨choosing { ready with txRegEmpty := false } .txDone, _, rfl, rfl, rfl⟩⟩

/-- A run that sends its one byte: `TX_READY`, then `TX_DONE`, then choices that are not enabled. -/
def sendRun : Nat → State
  | 0 => { sending with level := .platform }
  | 1 =>
    { sending with
      level := .platform, tx := buf 1 1 [(0, 0x41)], txie := false, txOut := [0x41], txRegEmpty := false, draws := 1 }
  | n + 2 =>
    { sending with level := .platform, tx := buf 1 1 [(0, 0x41)], txie := false, txOut := [0x41], draws := n + 2 }

/-- The choices of `sendRun`. -/
def sendMoves : Nat → Move
  | 0 => .txReady
  | _ + 1 => .txDone

theorem test_sendRun_is_a_run : IsPlatformRun sendRun sendMoves :=
  ⟨rfl, fun n => .inl (match n with | 0 => rfl | 1 => rfl | _ + 2 => rfl)⟩

theorem test_sendRun_is_fair : WeaklyFair sendRun sendMoves := by
  intro m hm n hen
  have h := hen (n + 2) (by omega)
  cases m with
  | rxEvent b => cases hm
  | app => exact absurd h Bool.false_ne_true
  | txReady => exact absurd h Bool.false_ne_true
  | txDone => exact absurd h Bool.false_ne_true

theorem test_hyps_FairnessMeetsTheDuty :
    ∃ r ms, IsPlatformRun r ms ∧ WeaklyFair r ms ∧ (r 1).txRegEmpty = false :=
  ⟨sendRun, sendMoves, test_sendRun_is_a_run, test_sendRun_is_fair, rfl⟩

theorem test_hyps_FairRunsEnd :
    ∃ r ms, IsPlatformRun r ms ∧ (r 0).Inv ∧ (r 0).NoStranded ∧ (r 0).appIdle ∧ (r 0).appPc ≤ (r 0).program.length ∧
      ((r 0).tx.empty = false → (r 0).initialized = true) ∧ WeaklyFair r ms ∧ FinitelyManyDeliveries r ms ∧
      (r 0).complete = false :=
  ⟨sendRun, sendMoves, test_sendRun_is_a_run,
    ⟨⟨by decide, by decide, by decide, by decide, by decide⟩, ⟨by decide, by decide, by decide, by decide, by decide⟩,
      ⟨by decide, by decide, by decide, by decide, by decide⟩,
      ⟨rfl, rfl, rfl, fun _ h => by cases h; decide, (fun h => nomatch h), (fun h => nomatch h)⟩⟩,
    fun _ _ _ => rfl, ⟨rfl, rfl⟩, by decide, fun _ => rfl, test_sendRun_is_fair,
    ⟨0, fun j _ _ h => by cases j <;> exact nomatch h.1⟩, by decide⟩

end Sys2Proof.Tests
end

section
/-! SUPPORT. What every step leaves fixed (R20, R34), how a step reaches the command it runs (R18, R34, R106, R221), and the
simulation of the block level by the platform's steps of `APP` (R18, R154, R155); with the statements they settle. -/

namespace Sys2Proof.Machine

/-! ### What no step changes (R20, R34, R77) -/

/-- The part of the state that the outside supplies and no step writes: configuration, program and level. -/
def State.fixedPart (s : State) : Params × List Command × Level := (s.params, s.program, s.level)

theorem fixedPart_eq_iff {s t : State} :
    t.fixedPart = s.fixedPart ↔ t.params = s.params ∧ t.program = s.program ∧ t.level = s.level := by
  simp [State.fixedPart]

theorem writeByteReturn_fixedPart (s : State) (r : Bool) : (s.writeByteReturn r).fixedPart = s.fixedPart := by
  unfold State.writeByteReturn
  split
  · rfl
  · split <;> rfl

theorem wbPhase2_fixedPart (s : State) : s.wbPhase2.fixedPart = s.fixedPart := by
  rw [wbPhase2_eq, writeByteReturn_fixedPart]
  rfl

theorem wbPhase1_fixedPart {b : Byte} {s t : State} (h : wbPhase1 b s = .next t) : t.fixedPart = s.fixedPart := by
  obtain ⟨-, rfl⟩ | ⟨-, -, B, -, ⟨-, rfl⟩ | ⟨-, rfl⟩⟩ := wbPhase1_next h
  · exact writeByteReturn_fixedPart s false
  · rfl
  · exact wbPhase2_fixedPart _

theorem writeBufferIterate_fixedPart {p : WriteProgress} {s t : State} (h : writeBufferIterate p s = .next t) :
    t.fixedPart = s.fixedPart := by
  obtain ⟨-, rfl⟩ | ⟨b, rest, -, hb⟩ := writeBufferIterate_next h
  · rfl
  · exact wbPhase1_fixedPart hb

theorem execWriteBuffer_fixedPart {bytes : List Byte} {s t : State} (h : execWriteBuffer bytes s = .next t) :
    t.fixedPart = s.fixedPart := by
  obtain ⟨-, rfl⟩ | ⟨-, -, hi⟩ | ⟨-, -, hr⟩ := execWriteBuffer_next h
  · rfl
  · exact (writeBufferIterate_fixedPart hi).trans rfl
  · exact writeBufferRun_keeps (fun u => u.fixedPart = s.fixedPart) (fun _ _ hu => hu)
      (fun _ _ _ hu _ hi => (writeBufferIterate_fixedPart hi).trans hu) bytes 0 s t rfl hr

theorem exec_fixedPart {i : Instr} {s t : State} (h : exec i s = .next t) : t.fixedPart = s.fixedPart := by
  cases i with
  | init sel => obtain ⟨-, rfl⟩ | ⟨-, rfl⟩ := execInit_next h <;> rfl
  | writeByte b =>
    obtain ⟨-, rfl⟩ | ⟨-, hb⟩ := execWriteByte_next h
    · rfl
    · exact wbPhase1_fixedPart hb
  | readByte => obtain ⟨-, rfl⟩ | ⟨-, -, rfl⟩ | ⟨-, -, v, -, rfl⟩ | ⟨-, -, -, rfl⟩ := execReadByte_next h <;> rfl
  | available => obtain ⟨-, rfl⟩ | ⟨-, rfl⟩ := execAvailable_next h <;> rfl
  | flushRx => obtain ⟨-, rfl⟩ | ⟨-, rfl⟩ := execFlushRx_next h <;> rfl
  | rxEvent b => obtain ⟨-, rfl⟩ | ⟨-, -, rfl⟩ | ⟨-, -, -, rfl⟩ := execRxEvent_next h <;> rfl
  | txReady => obtain ⟨-, rfl⟩ | ⟨-, -, rfl⟩ | ⟨-, -, v, -, B, -, rfl⟩ | ⟨-, -, -, rfl⟩ := execTxReady_next h <;> rfl
  | push b => obtain ⟨-, rfl⟩ | ⟨-, -, rfl⟩ := execPush_next h <;> rfl
  | pop => obtain ⟨-, rfl⟩ | ⟨-, v, -, rfl⟩ | ⟨-, -, rfl⟩ := execPop_next h <;> rfl
  | avail => obtain rfl := execAvail_next h; rfl
  | clear => obtain rfl := execClear_next h; rfl

theorem issue_fixedPart {c : Command} {s t : State} (h : issue c s = .next t) : t.fixedPart = s.fixedPart := by
  obtain ⟨w, why, -, -, rfl⟩ | ⟨w, i, -, -, -, he⟩ | ⟨w, i, -, -, -, rfl⟩ | ⟨bytes, -, -, he⟩ | ⟨bytes, -, -, rfl⟩ :=
    issue_next h
  · rfl
  · exact exec_fixedPart he
  · rfl
  · exact execWriteBuffer_fixedPart he
  · rfl

theorem nextCommand_fixedPart {s u : State} {c : Command} (h : s.nextCommand = some (c, u)) :
    u.fixedPart = s.fixedPart := by
  obtain ⟨-, -, rfl⟩ | ⟨-, cs, -, rfl⟩ := nextCommand_some h <;> rfl

theorem appStep_fixedPart {s t : State} (h : appStep s = .next t) : t.fixedPart = s.fixedPart := by
  obtain ⟨-, rfl⟩ | ⟨-, p, -, hi⟩ | ⟨-, -, -, rfl⟩ | ⟨-, -, c, u, hc, hi⟩ := appStep_next h
  · exact wbPhase2_fixedPart s
  · exact writeBufferIterate_fixedPart hi
  · rfl
  · exact (issue_fixedPart hi).trans (nextCommand_fixedPart hc)

theorem runMove_fixedPart {m : Move} {s t : State} (h : runMove m s = .next t) : t.fixedPart = s.fixedPart := by
  cases m with
  | app => exact appStep_fixedPart h
  | rxEvent b => exact exec_fixedPart (i := .rxEvent b) h
  | txReady => exact exec_fixedPart (i := .txReady) h
  | txDone => cases h; rfl

theorem platformStep_fixedPart {s t : State} (h : platformStep s = .next t) : t.fixedPart = s.fixedPart := by
  obtain ⟨-, hm⟩ | ⟨-, rfl⟩ := platformStep_next h
  · exact runMove_fixedPart (s := s.takeMove) hm
  · rfl

theorem step_fixedPart {s t : State} (h : step s = .next t) : t.fixedPart = s.fixedPart := by
  obtain ⟨-, -, ⟨-, rfl⟩ | ⟨-, -, hp⟩ | ⟨-, -, ha⟩⟩ := step_next h
  · rfl
  · exact platformStep_fixedPart hp
  · exact appStep_fixedPart ha

/-- Settles O22: every step keeps `fixedPart`, by cases over what a step can do. -/
theorem configurationAndProgramAreFixed : Obligations.ConfigurationAndProgramAreFixed :=
  fun _ _ h => fixedPart_eq_iff.mp (step_fixedPart h)

/-! ### Which command a step runs (R18, R34, R104, R106, R231) -/

/-- In a live block-level state a step is a step of the sequence. -/
theorem step_eq_appStep {s : State} (hs : s.live) (hl : s.level ≠ .platform) : step s = appStep s := by
  obtain ⟨hf, hr, hw⟩ := hs
  rw [step, running_live _ hf hr hw]
  unfold levelStep
  split
  · next hp => exact absurd hp hl
  · rfl

/-- In a live platform state whose choice is enabled, a step runs that choice. -/
theorem step_eq_runMove {s : State} (hs : s.live) (hl : s.level = .platform) (he : s.enabled s.nextMove = true) :
    step s = runMove s.nextMove s.takeMove := by
  obtain ⟨hf, hr, hw⟩ := hs
  rw [step, running_live _ hf hr hw]
  simp [levelStep, hl, platformStep, he]

/-- With a command of the program left, `APP` has a step (R242). -/
theorem app_enabled_of_program {s : State} {c : Command} (hs : s.live) (hc : s.program[s.appPc]? = some c) :
    s.enabled .app = true := by
  obtain ⟨hf, hr, -⟩ := hs
  have hpc : s.appPc < s.program.length := (List.getElem?_eq_some_iff.mp hc).1
  simp [State.enabled, State.appEnabled, hf, hr, hpc]

theorem nextCommand_of_queue {s : State} {c : Command} {cs : List Command} (hl : s.level ≠ .platform)
    (hq : s.queue = c :: cs) : s.nextCommand = some (c, s.setQueue cs) := by
  unfold State.nextCommand
  split
  · next hp => exact absurd hp hl
  · simp [hq]

theorem nextCommand_of_program {s : State} {c : Command} (hl : s.level = .platform)
    (hc : s.program[s.appPc]? = some c) : s.nextCommand = some (c, s) := by
  simp [State.nextCommand, hl, hc]

/-- With no command in progress, `APP` issues the next command (R150). -/
theorem appStep_of_nextCommand {s u : State} {c : Command} (hi : s.appIdle) (hn : s.nextCommand = some (c, u)) :
    appStep s = issue c u := by
  obtain ⟨hp, hw⟩ := hi
  simp [appStep, hp, hw, hn]

theorem issue_word_of_decode {w : Word} {i : Instr} {s : State} (hd : decode s.params.nb w = .ok i)
    (ha : s.level.admits i.port = true) : issue (.word w) s = exec i s := by
  simp [issue, hd, ha]

/-- Settles O7: each level's step fetches the word, and issuing it is `exec` of what it decodes to. -/
theorem stepRunsTheDecodedCommand : Obligations.StepRunsTheDecodedCommand := by
  intro s w i hs hidle hd ha
  constructor
  · intro cs hl hq
    calc step s = appStep s := step_eq_appStep hs hl
      _ = issue (.word w) (s.setQueue cs) := appStep_of_nextCommand hidle (nextCommand_of_queue hl hq)
      _ = exec i (s.setQueue cs) := issue_word_of_decode hd ha
  · intro hl hm hc
    have he : s.enabled s.nextMove = true := hm ▸ app_enabled_of_program hs hc
    calc step s = runMove .app s.takeMove := by rw [step_eq_runMove hs hl he, hm]
      _ = appStep s.takeMove := rfl
      _ = issue (.word w) s.takeMove := appStep_of_nextCommand hidle (nextCommand_of_program hl hc)
      _ = exec i s.takeMove := issue_word_of_decode hd ha

/-! ### The refusal of a bad configuration (R7 to R9, R221) -/

theorem params_wf_iff (p : Params) :
    p.wf = true ↔ 1 ≤ p.kRx ∧ 1 ≤ p.kTx ∧ 1 ≤ p.kUnit ∧ p.kRx ≤ p.atomicBits ∧ p.kTx ≤ p.atomicBits ∧
      1 ≤ p.nb ∧ p.nb ≤ 16 := by
  simp only [Params.wf, Bool.and_eq_true, decide_eq_true_eq, and_assoc]

theorem running_of_not_wf {s : State} (go : Host.Outcome State Fault Refusal) (hf : s.fault = none)
    (hr : s.refused = none) (hw : s.params.wf ≠ true) :
    running s go = .next (s.recordRefusal (.badConfiguration s.params)) := by
  simp [running, hf, hr, hw, refuse_eq]

/-- Settles O14: each of the seven conditions contradicts one conjunct of `Params.wf`, and `running` then refuses. -/
theorem badConfigurationIsRefusedFirst : Obligations.BadConfigurationIsRefusedFirst := by
  intro s hf hr hbad
  have hw : s.params.wf ≠ true := by
    rw [Ne, params_wf_iff, Params.nb]
    omega
  exact running_of_not_wf (levelStep s) hf hr hw

/-! ### The platform's steps of a write (R18, R152 to R155, D23) -/

theorem appSteps_trans {n m : Nat} {s t u : State} (hs : appSteps n s = .next t) (ht : appSteps m t = .next u) :
    appSteps (n + m) s = .next u := by
  induction n generalizing s with
  | zero =>
    cases hs
    simpa using ht
  | succ n ih =>
    rw [Nat.add_right_comm, appSteps]
    rw [appSteps] at hs
    split at hs
    · exact ih hs
    · next hno => exact absurd hs (hno t)

theorem appSteps_one {s t : State} (h : appStep s = .next t) : appSteps 1 s = .next t := by
  simp [appSteps, h]

/-- The program's index once a write has answered `t` at the block level: it moves on if the command is complete (R34). -/
def pcAfter (t : State) (pc : Nat) : Nat := if t.wb = none then pc + 1 else pc

theorem writeByteReturn_of_no_wb {s : State} (r : Bool) (h : s.wb = none) :
    s.writeByteReturn r = s.finish (.bool r) := by
  simp [State.writeByteReturn, h]

theorem writeByteReturn_true_of_wb {s : State} {p : WriteProgress} (h : s.wb = some p) :
    s.writeByteReturn true = s.setWb (some ⟨p.rest.tail, p.count + 1⟩) := by
  simp [State.writeByteReturn, h]

theorem writeByteReturn_false_of_wb {s : State} {p : WriteProgress} (h : s.wb = some p) :
    s.writeByteReturn false = (s.setWb none).finish (.nat p.count) := by
  simp [State.writeByteReturn, h]

/-- A `WRITE_BYTE` returns in the same way at both levels, but for the index. -/
theorem writeByteReturn_atPlatform (s : State) (pc : Nat) (r : Bool) :
    (s.atPlatform pc).writeByteReturn r =
      (s.writeByteReturn r).atPlatform (pcAfter (s.writeByteReturn r) pc) := by
  cases hw : s.wb with
  | none =>
    have hw' : (s.atPlatform pc).wb = none := hw
    rw [writeByteReturn_of_no_wb r hw, writeByteReturn_of_no_wb r hw', pcAfter, if_pos (by simpa using hw)]
    rfl
  | some p =>
    have hw' : (s.atPlatform pc).wb = some p := hw
    cases r with
    | false =>
      rw [writeByteReturn_false_of_wb hw, writeByteReturn_false_of_wb hw']
      rfl
    | true =>
      rw [writeByteReturn_true_of_wb hw, writeByteReturn_true_of_wb hw']
      rfl

theorem wbPhase2_atPlatform (s : State) (pc : Nat) :
    (s.atPlatform pc).wbPhase2 = s.wbPhase2.atPlatform (pcAfter s.wbPhase2 pc) := by
  simp only [wbPhase2_eq]
  exact writeByteReturn_atPlatform ((s.setTxie true).setPhase .idle) pc true

theorem wbPhase1_of_full {b : Byte} {s : State} (h : inc s.params.kTx s.tx.head = s.tx.tail) :
    wbPhase1 b s = .next (s.writeByteReturn false) := by
  simp [wbPhase1, RingBuffer.push, h]

/-- The outbound buffer after a `push` that stores `b`. -/
def State.txPushed (s : State) (b : Byte) : RingBuffer :=
  { head := inc s.params.kTx s.tx.head, tail := s.tx.tail, slots := Memory.write s.tx.slots s.tx.head b }

theorem wbPhase1_of_room {b : Byte} {s : State} (hl : s.level = .platform)
    (hn : inc s.params.kTx s.tx.head ≠ s.tx.tail) (hh : s.tx.head < capacity s.params.kTx) :
    wbPhase1 b s = .next ((s.setTx (s.txPushed b)).setPhase .enablePending) := by
  simp [wbPhase1, RingBuffer.push, RingBuffer.pushAddr, RingBuffer.memWrite, State.txPushed, hn, hh, hl]

/-- Both phases of one byte: the platform's phase 1, then its phase 2 if the byte was stored, end where the block level's
one step ends (R154). -/
theorem wbPhase1_atPlatform {b : Byte} {s t : State} (pc : Nat) (hl : s.level ≠ .platform)
    (h : wbPhase1 b s = .next t) :
    ∃ u n, wbPhase1 b (s.atPlatform pc) = .next u ∧ appSteps n u = .next (t.atPlatform (pcAfter t pc)) := by
  obtain ⟨hf, rfl⟩ | ⟨hn, hh, B, rfl, ⟨hp, -⟩ | ⟨-, rfl⟩⟩ := wbPhase1_next h
  · exact ⟨_, 0, wbPhase1_of_full hf, by rw [appSteps, writeByteReturn_atPlatform]⟩
  · exact absurd hp hl
  · refine ⟨_, 1, wbPhase1_of_room rfl hn hh, appSteps_one ?_⟩
    exact congrArg Host.Outcome.next (wbPhase2_atPlatform ((s.setTx (s.txPushed b)).setPhase .enablePending) pc)

/-- At the block level a `WRITE_BYTE` of its own completes at once (R154). -/
theorem wbPhase1_completes {b : Byte} {s t : State} (hl : s.level ≠ .platform) (hw : s.wb = none)
    (h : wbPhase1 b s = .next t) : t.wb = none := by
  obtain ⟨-, rfl⟩ | ⟨-, -, B, -, ⟨hp, -⟩ | ⟨-, rfl⟩⟩ := wbPhase1_next h
  · simp [writeByteReturn_of_no_wb false hw, hw]
  · exact absurd hp hl
  · rw [wbPhase2_eq, writeByteReturn_of_no_wb true (by simpa using hw)]
    simpa using hw

/-- At the block level a byte of a `WRITE_BUFFER` ends the command or leaves it before the next byte (R155). -/
theorem wbPhase1_goes_on {b b' : Byte} {rest : List Byte} {c : Nat} {s t : State} (hl : s.level ≠ .platform)
    (hw : s.wb = some ⟨b' :: rest, c⟩) (h : wbPhase1 b s = .next t) :
    t.wb = none ∨ (t.appPhase = .idle ∧ t.wb = some ⟨rest, c + 1⟩) := by
  obtain ⟨-, rfl⟩ | ⟨-, -, B, -, ⟨hp, -⟩ | ⟨-, rfl⟩⟩ := wbPhase1_next h
  · exact .inl (by simp [writeByteReturn_false_of_wb hw])
  · exact absurd hp hl
  · rw [wbPhase2_eq, writeByteReturn_true_of_wb (p := ⟨b' :: rest, c⟩) (by simpa using hw)]
    exact .inr ⟨rfl, rfl⟩

/-- At the platform level `APP` takes a `WRITE_BUFFER` on with its next iteration. -/
theorem appStep_of_wb {s : State} {p : WriteProgress} (hi : s.appPhase = .idle) (hw : s.wb = some p) :
    appStep s = writeBufferIterate p s := by
  simp [appStep, hi, hw]

theorem setWb_self {s : State} {w : Option WriteProgress} (h : s.wb = w) : s.setWb w = s := by
  subst h
  rfl

/-- The loop of R155, by induction on the bytes left: each block-level iteration is matched by the platform's steps of
that byte, and the platform then starts the next one from the same state. -/
theorem writeBufferRun_atPlatform (pc : Nat) (bytes : List Byte) (c : Nat) {s t : State} (hl : s.level ≠ .platform)
    (h : writeBufferRun bytes c s = .next t) :
    ∃ u n, writeBufferIterate ⟨bytes, c⟩ ((s.setWb (some ⟨bytes, c⟩)).atPlatform pc) = .next u ∧
      appSteps n u = .next (t.atPlatform (pc + 1)) := by
  induction bytes generalizing c s with
  | nil =>
    cases h
    exact ⟨_, 0, rfl, rfl⟩
  | cons b rest ih =>
    rw [writeBufferRun] at h
    split at h
    · next v hv =>
      have hb : wbPhase1 b (s.setWb (some ⟨b :: rest, c⟩)) = .next v := hv
      obtain ⟨u, n, hu, hn⟩ := wbPhase1_atPlatform pc (by simpa using hl) hb
      split at h
      · next hw =>
        cases h
        exact ⟨u, n, hu, by simpa [pcAfter, hw] using hn⟩
      · next hw =>
        obtain ⟨hvi, hvw⟩ := (wbPhase1_goes_on (by simpa using hl) rfl hb).resolve_left hw
        have hvl : v.level ≠ .platform := by
          obtain ⟨-, -, e⟩ := fixedPart_eq_iff.mp (wbPhase1_fixedPart hb)
          simpa [e] using hl
        obtain ⟨u', n', hu', hn'⟩ := ih (c + 1) hvl h
        rw [setWb_self hvw] at hu'
        have hnext : appSteps 1 (v.atPlatform pc) = .next u' :=
          appSteps_one ((appStep_of_wb (s := v.atPlatform pc) hvi hvw).trans hu')
        have hn : appSteps n u = .next (v.atPlatform pc) := by simpa [pcAfter, hw] using hn
        exact ⟨u, n + (1 + n'), hu, appSteps_trans hn (appSteps_trans hnext hn')⟩
    · next hno => exact absurd h (hno t)

theorem exec_writeByte_of_initialized {s : State} (b : Byte) (h : s.initialized = true) :
    exec (.writeByte b) s = wbPhase1 b s := whenInitialized_true _ h

theorem execWriteBuffer_of_blockLevel {s : State} (bytes : List Byte) (h : s.initialized = true)
    (hl : s.level ≠ .platform) : execWriteBuffer bytes s = writeBufferRun bytes 0 s :=
  (whenInitialized_true _ h).trans (if_neg hl)

theorem execWriteBuffer_of_platform {s : State} (bytes : List Byte) (h : s.initialized = true)
    (hl : s.level = .platform) :
    execWriteBuffer bytes s = writeBufferIterate ⟨bytes, 0⟩ (s.setWb (some ⟨bytes, 0⟩)) :=
  (whenInitialized_true _ h).trans (if_pos hl)

/-- Settles O43: `WRITE_BYTE` by the simulation of one byte, `WRITE_BUFFER` by that of the loop. -/
theorem platformRefinesBlockLevel : Obligations.PlatformRefinesBlockLevel := by
  intro s t hinit hdriver ⟨_, hw⟩
  have hl : s.level ≠ .platform := by simp [hdriver]
  have hinit' : (s.atPlatform s.appPc).initialized = true := hinit
  constructor
  · intro b h
    rw [exec_writeByte_of_initialized b hinit] at h
    obtain ⟨u, n, hu, hn⟩ := wbPhase1_atPlatform s.appPc hl h
    have hpc : pcAfter t s.appPc = s.appPc + 1 := if_pos (wbPhase1_completes hl hw h)
    exact ⟨u, n, (exec_writeByte_of_initialized b hinit').trans hu, hpc ▸ hn⟩
  · intro bytes h
    rw [execWriteBuffer_of_blockLevel bytes hinit hl] at h
    obtain ⟨u, n, hu, hn⟩ := writeBufferRun_atPlatform s.appPc bytes 0 hl h
    exact ⟨u, n, (execWriteBuffer_of_platform bytes hinit' rfl).trans hu, hn⟩

end Sys2Proof.Machine
end

section
/-! SUPPORT. A RingBuffer as a bounded queue: what `push`, `pop` and `clear` do to the content of a well-formed buffer (R24, R122
to R128); with the statement it settles. -/

namespace Sys2Proof.Machine

/-! ### Index arithmetic within two turns of the ring (R12, R21) -/

theorem mask_of_lt_two_turns {k x : Nat} (h : x < 2 * capacity k) :
    mask k x = if x < capacity k then x else x - capacity k := by
  rw [mask_eq_mod]
  split
  · next hx => exact Nat.mod_eq_of_lt hx
  · next hx => rw [Nat.mod_eq_sub_mod (by omega), Nat.mod_eq_of_lt (by omega)]

theorem inc_of_lt {k i : Nat} (h : i < capacity k) : inc k i = if i + 1 < capacity k then i + 1 else 0 := by
  rw [inc, mask_of_lt_two_turns (by omega)]
  split <;> omega

theorem mask_inc_add (k i j : Nat) : mask k (inc k i + j) = mask k (i + (j + 1)) := by
  rw [mask_eq_mod, mask_eq_mod, inc_eq_mod, Nat.mod_add_mod, Nat.add_assoc, Nat.add_comm 1]

theorem available_of_lt {k : Nat} {B : RingBuffer} (hh : B.head < capacity k) (ht : B.tail < capacity k) :
    B.available k = if B.tail ≤ B.head then B.head - B.tail else B.head + capacity k - B.tail := by
  rw [RingBuffer.available, dist, mask_of_lt_two_turns (by omega)]
  split <;> split <;> omega

theorem available_lt (k : Nat) (B : RingBuffer) : B.available k < capacity k := dist_lt k B.head B.tail

/-! ### The queue that a well-formed buffer holds (R24, R123, R124, R126) -/

/-- The buffer after a `push` that stores `b` (R123). -/
def RingBuffer.pushed (k : Nat) (B : RingBuffer) (b : Byte) : RingBuffer :=
  { head := inc k B.head, tail := B.tail, slots := Memory.write B.slots B.head b }

/-- The buffer after a `pop` that takes a byte (R124). -/
def RingBuffer.popped (k : Nat) (B : RingBuffer) : RingBuffer :=
  { head := B.head, tail := inc k B.tail, slots := B.slots }

section
variable {k : Nat} {B : RingBuffer} {b : Byte}

theorem RingBuffer.Ok.available_zero_iff (hB : B.Ok k) : B.available k = 0 ↔ B.head = B.tail := by
  have hh := hB.head_lt
  have ht := hB.tail_lt
  rw [available_of_lt hh ht]
  split <;> omega

/-- Full is `N − 1` bytes held (R122). -/
theorem RingBuffer.Ok.full_iff_available (hB : B.Ok k) : inc k B.head = B.tail ↔ B.available k = capacity k - 1 := by
  have hh := hB.head_lt
  have ht := hB.tail_lt
  rw [available_of_lt hh ht, inc_of_lt hh]
  split <;> split <;> omega

/-- The first free slot is the one after the last occupied slot. -/
theorem RingBuffer.Ok.mask_tail_add_available (hB : B.Ok k) : mask k (B.tail + B.available k) = B.head := by
  have hh := hB.head_lt
  have ht := hB.tail_lt
  have ha := available_lt k B
  rw [mask_of_lt_two_turns (by omega), available_of_lt hh ht]
  split <;> split <;> omega

theorem RingBuffer.Ok.mask_tail_add_ne_head (hB : B.Ok k) {j : Nat} (hj : j < B.available k) :
    mask k (B.tail + j) ≠ B.head := by
  have hh := hB.head_lt
  have ht := hB.tail_lt
  have ha := available_lt k B
  rw [mask_of_lt_two_turns (by omega)]
  rw [available_of_lt hh ht] at hj
  split <;> split at hj <;> omega

theorem RingBuffer.Ok.mask_tail (hB : B.Ok k) : mask k (B.tail + 0) = B.tail := by
  rw [Nat.add_zero, mask_eq_mod, Nat.mod_eq_of_lt hB.tail_lt]

theorem RingBuffer.Ok.available_pushed (hB : B.Ok k) (hn : inc k B.head ≠ B.tail) :
    (B.pushed k b).available k = B.available k + 1 := by
  have hh := hB.head_lt
  have ht := hB.tail_lt
  have hnew : (B.pushed k b).available k =
      if B.tail ≤ inc k B.head then inc k B.head - B.tail else inc k B.head + capacity k - B.tail :=
    available_of_lt (inc_lt k B.head) ht
  have hi := inc_of_lt hh
  rw [available_of_lt hh ht, hnew]
  split at hi <;> split <;> split <;> omega

theorem RingBuffer.Ok.available_popped (hB : B.Ok k) (hn : B.head ≠ B.tail) :
    B.available k = (B.popped k).available k + 1 := by
  have hh := hB.head_lt
  have ht := hB.tail_lt
  have hnew : (B.popped k).available k =
      if inc k B.tail ≤ B.head then B.head - inc k B.tail else B.head + capacity k - inc k B.tail :=
    available_of_lt hh (inc_lt k B.tail)
  have hi := inc_of_lt ht
  rw [available_of_lt hh ht, hnew]
  split at hi <;> split <;> split <;> omega

theorem memRead_pushed_head (k : Nat) (B : RingBuffer) (b : Byte) : (B.pushed k b).memRead B.head = some b :=
  memory_read_write_same B.slots B.head b

/-- A `push` leaves every occupied slot as it was. -/
theorem RingBuffer.Ok.memRead_pushed_occupied (hB : B.Ok k) {j : Nat} (hj : j < B.available k) :
    (B.pushed k b).memRead (mask k (B.tail + j)) = B.memRead (mask k (B.tail + j)) :=
  memory_read_write_other B.slots b (hB.mask_tail_add_ne_head hj)

theorem RingBuffer.Ok.pushed (hB : B.Ok k) (hn : inc k B.head ≠ B.tail) : (B.pushed k b).Ok k where
  head_lt := inc_lt k B.head
  tail_lt := hB.tail_lt
  slots_wf := memory_write_wf B.head b hB.slots_wf
  slots_lt c hc := by
    rcases memory_mem_write hc with rfl | hc
    · exact hB.head_lt
    · exact hB.slots_lt c hc
  occupied j hj := by
    rw [hB.available_pushed hn] at hj
    show ((B.pushed k b).memRead (mask k (B.tail + j))).isSome = true
    rcases Nat.lt_succ_iff_lt_or_eq.mp hj with hj | rfl
    · rw [hB.memRead_pushed_occupied hj]
      exact hB.occupied j hj
    · rw [hB.mask_tail_add_available, memRead_pushed_head]
      rfl

theorem RingBuffer.Ok.popped (hB : B.Ok k) (hn : B.head ≠ B.tail) : (B.popped k).Ok k where
  head_lt := hB.head_lt
  tail_lt := inc_lt k B.tail
  slots_wf := hB.slots_wf
  slots_lt := hB.slots_lt
  occupied j hj := by
    have h := hB.occupied (j + 1) (by rw [hB.available_popped hn]; exact Nat.succ_lt_succ hj)
    rwa [← mask_inc_add] at h

theorem available_clear (k : Nat) (B : RingBuffer) : B.clear.available k = 0 := by
  simp [RingBuffer.available, dist_eq_mod]

/-- A cleared buffer is well formed whatever its indices were: they are unspecified before `INIT` (R44). -/
theorem clear_ok (hw : Memory.wf B.slots) (hl : ∀ c ∈ B.slots, c.1 < capacity k) : B.clear.Ok k where
  head_lt := capacity_pos k
  tail_lt := capacity_pos k
  slots_wf := hw
  slots_lt := hl
  occupied j hj := absurd (available_clear k B ▸ hj) (Nat.not_lt_zero j)

theorem RingBuffer.Ok.clear (hB : B.Ok k) : B.clear.Ok k := clear_ok hB.slots_wf hB.slots_lt

theorem fresh_ok (k : Nat) : RingBuffer.fresh.Ok k :=
  clear_ok (B := .fresh) List.Pairwise.nil (fun _ hc => absurd hc List.not_mem_nil)

theorem RingBuffer.Ok.length_contents (hB : B.Ok k) : (B.contents k).length = B.available k := by
  have h : ∀ j ∈ List.range (B.available k), (B.memRead (mask k (B.tail + j))).isSome = true :=
    fun j hj => hB.occupied j (List.mem_range.mp hj)
  rw [RingBuffer.contents, List.filterMap_length_eq_length.mpr h, List.length_range]

theorem RingBuffer.Ok.contents_pushed (hB : B.Ok k) (hn : inc k B.head ≠ B.tail) :
    (B.pushed k b).contents k = B.contents k ++ [b] := by
  have hold : (List.range (B.available k)).filterMap (fun j => (B.pushed k b).memRead (mask k (B.tail + j))) =
      B.contents k :=
    List.filterMap_congr fun j hj => hB.memRead_pushed_occupied (List.mem_range.mp hj)
  have hnew : (B.pushed k b).memRead (mask k (B.tail + B.available k)) = some b := by
    rw [hB.mask_tail_add_available, memRead_pushed_head]
  rw [RingBuffer.contents, hB.available_pushed hn, List.range_succ, List.filterMap_append]
  exact congrArg₂ (· ++ ·) hold (List.filterMap_cons_some hnew)

theorem RingBuffer.Ok.contents_popped (hB : B.Ok k) (hn : B.head ≠ B.tail) {v : Byte}
    (hv : B.memRead B.tail = some v) : B.contents k = v :: (B.popped k).contents k := by
  have hrest : (List.range ((B.popped k).available k)).filterMap (fun j => B.memRead (mask k (B.tail + (j + 1)))) =
      (B.popped k).contents k :=
    List.filterMap_congr fun j _ => congrArg B.memRead (mask_inc_add k B.tail j).symm
  rw [RingBuffer.contents, hB.available_popped hn, List.range_succ_eq_map,
    List.filterMap_cons_some (b := v) (by rw [hB.mask_tail, hv]), List.filterMap_map]
  exact congrArg (v :: ·) hrest

theorem contents_clear (k : Nat) (B : RingBuffer) : B.clear.contents k = [] := by
  rw [RingBuffer.contents, available_clear]
  rfl

/-- The slot at the tail of a non-empty buffer is written (R24). -/
theorem RingBuffer.Ok.memRead_tail_isSome (hB : B.Ok k) (hn : B.head ≠ B.tail) :
    (B.memRead B.tail).isSome = true := by
  have h := hB.occupied 0 (Nat.pos_of_ne_zero (mt hB.available_zero_iff.mp hn))
  rwa [hB.mask_tail] at h

end

/-- Settles O28: each answer of `push` and `pop` in turn; the answers that the statement excludes contradict `Ok`. -/
theorem ringBufferIsABoundedQueue : Obligations.RingBufferIsABoundedQueue := by
  intro k B b hB
  refine ⟨hB.length_contents.symm, ?_, ?_, hB.clear, contents_clear k B⟩
  · have hfull := hB.full_iff_available
    have hlt := available_lt k B
    rw [hB.length_contents]
    obtain ⟨hf, e⟩ | ⟨hn, -, e⟩ | ⟨-, hge, e⟩ := push_cases (k := k) (B := B) (b := b) rfl <;> rw [e]
    · exact hfull.mp hf
    · have hroom : B.available k ≠ capacity k - 1 := mt hfull.mpr hn
      exact ⟨hB.pushed hn, by unfold capacity at hlt hroom; omega, hB.contents_pushed hn⟩
    · exact absurd hB.head_lt (Nat.not_lt.mpr hge)
  · obtain ⟨he, e⟩ | ⟨hn, -, v, hv, e⟩ | ⟨hn, -, hv, e⟩ | ⟨-, hge, e⟩ := pop_cases (k := k) (B := B) rfl <;> rw [e]
    · exact List.eq_nil_of_length_eq_zero (hB.length_contents.trans (hB.available_zero_iff.mpr he))
    · exact ⟨hB.popped hn, hB.contents_popped hn hv⟩
    · simpa [hv] using hB.memRead_tail_isSome hn
    · exact absurd hB.tail_lt (Nat.not_lt.mpr hge)

end Sys2Proof.Machine
end

section
/-! SUPPORT. A rule that turns "every part of a step keeps `P`" into "every step keeps `P`" (R18, R231, R242), the frame of the
outbound writes (R152 to R155), and with them what every step keeps (R21 to R45), and the statements these settle. -/

namespace Sys2Proof.Machine

/-! ### From the parts of a step to the step (R18, R231, R242) -/

/-- `P` is kept by everything that a step is made of. A command of the application port is issued only when no command is in
progress, and a decoded command is well formed. -/
structure KeptByParts (P : State → Prop) : Prop where
  refusal : ∀ s r, P s → P (s.recordRefusal r)
  queue : ∀ s cs, P s → P (s.setQueue cs)
  choice : ∀ s, P s → P s.takeMove
  txDone : ∀ s, P s → P s.txDone
  exec : ∀ i s t, P s → i.wf s.params.nb = true → (i.port = .app → s.appIdle) → Machine.exec i s = .next t → P t
  writeBuffer : ∀ bytes s t, P s → s.appIdle → execWriteBuffer bytes s = .next t → P t
  iterate : ∀ p s t, P s → s.appPhase = .idle → s.wb = some p → writeBufferIterate p s = .next t → P t
  phase2 : ∀ s, P s → s.appPhase = .enablePending → P s.wbPhase2

theorem decodeByteForm_ok {w : Word} {f : Byte → Instr} {i : Instr} (h : decodeByteForm w f = .ok i) :
    i = f (dataField w) := by
  unfold decodeByteForm at h
  split at h <;> cases h
  rfl

theorem decodeBareForm_ok {w : Word} {i j : Instr} (h : decodeBareForm w i = .ok j) : j = i := by
  unfold decodeBareForm at h
  split at h
  · split at h <;> cases h
    rfl
  · cases h

theorem decodeInitForm_ok {nb : Nat} {w : Word} {i : Instr} (h : decodeInitForm nb w = .ok i) :
    (argField w).toNat < nb ∧ i = .init (argField w) := by
  unfold decodeInitForm at h
  split at h
  · split at h
    · next hlt => cases h; exact ⟨hlt, rfl⟩
    · cases h
  · cases h

/-- The decoder answers well-formed commands only (R104). -/
theorem decode_wf {nb : Nat} {w : Word} {i : Instr} (h : decode nb w = .ok i) : i.wf nb = true := by
  unfold decode at h
  split at h
  · obtain ⟨hlt, rfl⟩ := decodeInitForm_ok h
    exact decide_eq_true hlt
  · obtain rfl := decodeByteForm_ok h; rfl
  · obtain rfl := decodeBareForm_ok h; rfl
  · obtain rfl := decodeBareForm_ok h; rfl
  · obtain rfl := decodeBareForm_ok h; rfl
  · obtain rfl := decodeByteForm_ok h; rfl
  · obtain rfl := decodeBareForm_ok h; rfl
  · obtain rfl := decodeByteForm_ok h; rfl
  · obtain rfl := decodeBareForm_ok h; rfl
  · obtain rfl := decodeBareForm_ok h; rfl
  · obtain rfl := decodeBareForm_ok h; rfl
  · cases h

section
variable {P : State → Prop} (hP : KeptByParts P)
include hP

theorem KeptByParts.issue {c : Command} {s t : State} (hs : P s) (hidle : s.appIdle) (h : issue c s = .next t) :
    P t := by
  obtain ⟨w, why, -, -, rfl⟩ | ⟨w, i, -, hd, -, he⟩ | ⟨w, i, -, -, -, rfl⟩ | ⟨bytes, -, -, he⟩ | ⟨bytes, -, -, rfl⟩ :=
    issue_next h
  · exact hP.refusal _ _ hs
  · exact hP.exec i s t hs (decode_wf hd) (fun _ => hidle) he
  · exact hP.refusal _ _ hs
  · exact hP.writeBuffer bytes s t hs hidle he
  · exact hP.refusal _ _ hs

theorem KeptByParts.appStep {s t : State} (hs : P s) (h : appStep s = .next t) : P t := by
  obtain ⟨hp, rfl⟩ | ⟨hi, p, hw, hit⟩ | ⟨-, -, -, rfl⟩ | ⟨hi, hw, c, u, hc, hu⟩ := appStep_next h
  · exact hP.phase2 s hs hp
  · exact hP.iterate p s t hs hi hw hit
  · exact hs
  · obtain ⟨-, -, rfl⟩ | ⟨-, cs, -, rfl⟩ := nextCommand_some hc
    · exact hP.issue hs ⟨hi, hw⟩ hu
    · exact hP.issue (hP.queue s cs hs) ⟨hi, hw⟩ hu

theorem KeptByParts.runMove {m : Move} {s t : State} (hs : P s) (h : runMove m s = .next t) : P t := by
  cases m with
  | app => exact hP.appStep hs h
  | rxEvent b => exact hP.exec (.rxEvent b) s t hs rfl (fun hp => nomatch hp) h
  | txReady => exact hP.exec .txReady s t hs rfl (fun hp => nomatch hp) h
  | txDone => cases h; exact hP.txDone s hs

/-- What every part keeps, every step keeps. -/
theorem KeptByParts.step {s t : State} (hs : P s) (h : step s = .next t) : P t := by
  obtain ⟨-, -, ⟨-, rfl⟩ | ⟨-, -, hp⟩ | ⟨-, -, ha⟩⟩ := step_next h
  · exact hP.refusal s _ hs
  · obtain ⟨-, hm⟩ | ⟨-, rfl⟩ := platformStep_next hp
    · exact hP.runMove (hP.choice s hs) hm
    · exact hP.choice s hs
  · exact hP.appStep hs ha

end

/-! ### The frame of `WRITE_BYTE` and `WRITE_BUFFER` (R152 to R155) -/

/-- The fields that an outbound write may write take the values they have in `u`. -/
def State.withWriteFieldsOf (s u : State) : State :=
  { s with tx := u.tx, txie := u.txie, appPhase := u.appPhase, wb := u.wb, res := u.res, appPc := u.appPc }

/-- The return of a `WRITE_BYTE` writes `wb`, `RES` and `appPc` and nothing else. -/
theorem writeByteReturn_update (s : State) (r : Bool) :
    ∃ w v pc, s.writeByteReturn r = { s with wb := w, res := v, appPc := pc } := by
  cases hw : s.wb with
  | none => exact ⟨s.wb, _, _, writeByteReturn_of_no_wb r hw⟩
  | some p =>
    cases r with
    | true => exact ⟨_, s.res, s.appPc, writeByteReturn_true_of_wb hw⟩
    | false => exact ⟨none, _, _, writeByteReturn_false_of_wb hw⟩

theorem wbPhase2_update (s : State) :
    ∃ w v pc, s.wbPhase2 = { s with txie := true, appPhase := .idle, wb := w, res := v, appPc := pc } := by
  rw [wbPhase2_eq]
  exact writeByteReturn_update ((s.setTxie true).setPhase .idle) true

/-- The ends of phase 1, with phase 2 after it at the block level, as updates of the state (R152, R154). -/
theorem wbPhase1_update {b : Byte} {s t : State} (h : wbPhase1 b s = .next t) :
    (inc s.params.kTx s.tx.head = s.tx.tail ∧ ∃ w v pc, t = { s with wb := w, res := v, appPc := pc }) ∨
    (inc s.params.kTx s.tx.head ≠ s.tx.tail ∧ s.level = .platform ∧
      t = { s with tx := s.tx.pushed s.params.kTx b, appPhase := .enablePending }) ∨
    (inc s.params.kTx s.tx.head ≠ s.tx.tail ∧ s.level ≠ .platform ∧ ∃ w v pc, t = { s with
      tx := s.tx.pushed s.params.kTx b, txie := true, appPhase := .idle, wb := w, res := v, appPc := pc }) := by
  obtain ⟨hf, rfl⟩ | ⟨hn, -, B, rfl, ⟨hl, rfl⟩ | ⟨hl, rfl⟩⟩ := wbPhase1_next h
  · exact .inl ⟨hf, writeByteReturn_update s false⟩
  · exact .inr (.inl ⟨hn, hl, rfl⟩)
  · exact .inr (.inr ⟨hn, hl, wbPhase2_update _⟩)

theorem wbPhase2_frame (s : State) : s.withWriteFieldsOf s.wbPhase2 = s.wbPhase2 := by
  obtain ⟨w, v, pc, e⟩ := wbPhase2_update s
  rw [e]
  rfl

theorem wbPhase1_frame {b : Byte} {s t : State} (h : wbPhase1 b s = .next t) : s.withWriteFieldsOf t = t := by
  obtain ⟨-, w, v, pc, rfl⟩ | ⟨-, -, rfl⟩ | ⟨-, -, w, v, pc, rfl⟩ := wbPhase1_update h <;> rfl

theorem writeBufferIterate_frame {p : WriteProgress} {s t : State} (h : writeBufferIterate p s = .next t) :
    s.withWriteFieldsOf t = t := by
  obtain ⟨-, rfl⟩ | ⟨b, rest, -, hb⟩ := writeBufferIterate_next h
  · rfl
  · exact wbPhase1_frame hb

theorem withWriteFieldsOf_trans {s u t : State} (hu : s.withWriteFieldsOf u = u) (ht : u.withWriteFieldsOf t = t) :
    s.withWriteFieldsOf t = t :=
  calc s.withWriteFieldsOf t = (s.withWriteFieldsOf u).withWriteFieldsOf t := rfl
    _ = t := by rw [hu, ht]

theorem writeBufferRun_frame {bytes : List Byte} {c : Nat} {s t : State} (h : writeBufferRun bytes c s = .next t) :
    s.withWriteFieldsOf t = t :=
  writeBufferRun_keeps (fun u => s.withWriteFieldsOf u = u)
    (fun _ _ hu => withWriteFieldsOf_trans hu rfl)
    (fun _ _ _ hu _ hi => withWriteFieldsOf_trans hu (writeBufferIterate_frame hi)) bytes c s t rfl h

/-- `WRITE_BUFFER` faults before `INIT`, and else keeps the frame. -/
theorem execWriteBuffer_frame {bytes : List Byte} {s t : State} (hi : s.initialized = true)
    (h : execWriteBuffer bytes s = .next t) : s.withWriteFieldsOf t = t := by
  obtain ⟨hn, -⟩ | ⟨-, -, hit⟩ | ⟨-, -, hr⟩ := execWriteBuffer_next h
  · simp [hi] at hn
  · exact withWriteFieldsOf_trans (u := s.setWb (some ⟨bytes, 0⟩)) rfl (writeBufferIterate_frame hit)
  · exact writeBufferRun_frame hr

/-- At the block level each byte of a write is enabled before the step ends: no phase 2 is left over (R154). -/
theorem writeBufferIterate_idle {p : WriteProgress} {s t : State} (hl : s.level ≠ .platform) (hi : s.appPhase = .idle)
    (h : writeBufferIterate p s = .next t) : t.appPhase = .idle := by
  obtain ⟨-, rfl⟩ | ⟨b, rest, -, hb⟩ := writeBufferIterate_next h
  · exact hi
  · obtain ⟨-, w, v, pc, rfl⟩ | ⟨-, hp, -⟩ | ⟨-, -, w, v, pc, rfl⟩ := wbPhase1_update hb
    · exact hi
    · exact absurd hp hl
    · rfl

/-- At the block level no `WRITE_BUFFER` is left in progress (R155). -/
theorem writeBufferRun_completes {bytes : List Byte} {c : Nat} {s t : State}
    (h : writeBufferRun bytes c s = .next t) : t.wb = none := by
  induction bytes generalizing c s with
  | nil => cases h; rfl
  | cons b rest ih =>
    rw [writeBufferRun] at h
    split at h
    · split at h
      · next hw => cases h; exact hw
      · exact ih h
    · next hno => exact absurd h (hno t)

/-! ### Initialisation is for good (R28, R31, R32) -/

/-- What `INIT` sets and no later command writes. -/
def State.configPart (s : State) : Bool × Bool × Option BaudPair × Option (BitVec 4) :=
  (s.initialized, s.rxie, s.cfg, s.baudSel)

theorem initialized_of_configPart {s t : State} (e : t.configPart = s.configPart) : t.initialized = s.initialized :=
  congrArg Prod.fst e

theorem configPart_of_write {s t : State} (h : s.withWriteFieldsOf t = t) : t.configPart = s.configPart :=
  calc t.configPart = (s.withWriteFieldsOf t).configPart := by rw [h]
    _ = s.configPart := rfl

theorem exec_configPart {i : Instr} {s t : State} (hi : s.initialized = true) (h : exec i s = .next t) :
    t.configPart = s.configPart := by
  cases i with
  | init sel =>
    obtain ⟨-, rfl⟩ | ⟨hn, -⟩ := execInit_next h
    · rfl
    · simp [hi] at hn
  | writeByte b =>
    obtain ⟨-, rfl⟩ | ⟨-, hb⟩ := execWriteByte_next h
    · rfl
    · exact configPart_of_write (wbPhase1_frame hb)
  | readByte => obtain ⟨-, rfl⟩ | ⟨-, -, rfl⟩ | ⟨-, -, v, -, rfl⟩ | ⟨-, -, -, rfl⟩ := execReadByte_next h <;> rfl
  | available => obtain ⟨-, rfl⟩ | ⟨-, rfl⟩ := execAvailable_next h <;> rfl
  | flushRx => obtain ⟨-, rfl⟩ | ⟨-, rfl⟩ := execFlushRx_next h <;> rfl
  | rxEvent b => obtain ⟨-, rfl⟩ | ⟨-, -, rfl⟩ | ⟨-, -, -, rfl⟩ := execRxEvent_next h <;> rfl
  | txReady => obtain ⟨-, rfl⟩ | ⟨-, -, rfl⟩ | ⟨-, -, v, -, B, -, rfl⟩ | ⟨-, -, -, rfl⟩ := execTxReady_next h <;> rfl
  | push b => obtain ⟨-, rfl⟩ | ⟨-, -, rfl⟩ := execPush_next h <;> rfl
  | pop => obtain ⟨-, rfl⟩ | ⟨-, v, -, rfl⟩ | ⟨-, -, rfl⟩ := execPop_next h <;> rfl
  | avail => obtain rfl := execAvail_next h; rfl
  | clear => obtain rfl := execClear_next h; rfl

theorem configPart_kept {s : State} (hs : s.initialized = true) :
    KeptByParts (fun u => u.configPart = s.configPart) where
  refusal _ _ hu := hu
  queue _ _ hu := hu
  choice _ hu := hu
  txDone _ hu := hu
  exec _ _ _ hu _ _ h := (exec_configPart ((initialized_of_configPart hu).trans hs) h).trans hu
  writeBuffer _ _ _ hu _ h :=
    (configPart_of_write (execWriteBuffer_frame ((initialized_of_configPart hu).trans hs) h)).trans hu
  iterate _ _ _ hu _ _ h := (configPart_of_write (writeBufferIterate_frame h)).trans hu
  phase2 u hu _ := (configPart_of_write (wbPhase2_frame u)).trans hu

/-- Settles O23: every part of a step keeps `configPart` once `initialized` is set. -/
theorem initialisationIsForGood : Obligations.InitialisationIsForGood := by
  intro s t hs h
  have hkept : t.configPart = s.configPart := (configPart_kept hs).step rfl h
  simp only [State.configPart, Prod.mk.injEq] at hkept
  obtain ⟨hinit, hrxie, hcfg, hsel⟩ := hkept
  exact ⟨hinit.trans hs, hrxie, hcfg, hsel⟩

/-! ### The transmit flag at the block level (R45) -/

/-- `TXIE` follows the occupancy of `tx` once initialised, with no phase 2 outstanding: what the loop of R155 keeps. -/
def State.FlagFollows (s : State) : Prop :=
  s.level ≠ .platform ∧ s.appPhase = .idle ∧ (s.initialized = true → s.txie = !s.tx.empty)

theorem flagTracksBuffer_iff (s : State) : s.FlagTracksBuffer ↔ s.FlagFollows ∧ s.wb = none := by
  unfold State.FlagTracksBuffer State.FlagFollows
  tauto

theorem empty_eq_false {B : RingBuffer} (h : B.head ≠ B.tail) : B.empty = false := decide_eq_false h

theorem wbPhase1_flagFollows {b : Byte} {s t : State} (hs : s.FlagFollows) (h : wbPhase1 b s = .next t) :
    t.FlagFollows := by
  obtain ⟨hl, hi, hf⟩ := hs
  obtain ⟨-, w, v, pc, rfl⟩ | ⟨-, hp, -⟩ | ⟨hn, -, w, v, pc, rfl⟩ := wbPhase1_update h
  · exact ⟨hl, hi, hf⟩
  · exact absurd hp hl
  · refine ⟨hl, rfl, fun _ => ?_⟩
    have hne : (s.tx.pushed s.params.kTx b).empty = false := empty_eq_false hn
    simp [hne]

theorem writeBufferIterate_flagFollows {p : WriteProgress} {s t : State} (hs : s.FlagFollows)
    (h : writeBufferIterate p s = .next t) : t.FlagFollows := by
  obtain ⟨-, rfl⟩ | ⟨b, rest, -, hb⟩ := writeBufferIterate_next h
  · exact hs
  · exact wbPhase1_flagFollows hs hb

theorem execWriteBuffer_flagTracksBuffer {bytes : List Byte} {s t : State} (hs : s.FlagTracksBuffer)
    (h : execWriteBuffer bytes s = .next t) : t.FlagTracksBuffer := by
  obtain ⟨hf, -⟩ := (flagTracksBuffer_iff s).mp hs
  obtain ⟨-, rfl⟩ | ⟨-, hp, -⟩ | ⟨-, -, hr⟩ := execWriteBuffer_next h
  · exact hs
  · exact absurd hp hf.1
  · refine (flagTracksBuffer_iff t).mpr ⟨?_, writeBufferRun_completes hr⟩
    exact writeBufferRun_keeps State.FlagFollows (fun _ _ hu => hu)
      (fun _ _ _ hu _ hi => writeBufferIterate_flagFollows hu hi) bytes 0 s t hf hr

/-- `TX_READY` disables exactly when it leaves the buffer empty (R193, R195). -/
theorem execTxReady_flagTracksBuffer {s t : State} (hs : s.FlagTracksBuffer) (h : execTxReady s = .next t) :
    t.FlagTracksBuffer := by
  obtain ⟨hl, hi, hw, hf⟩ := hs
  obtain ⟨-, rfl⟩ | ⟨-, he, rfl⟩ | ⟨hinit, hn, v, -, B, -, rfl⟩ | ⟨-, -, -, rfl⟩ := execTxReady_next h
  · exact ⟨hl, hi, hw, hf⟩
  · refine ⟨hl, hi, hw, fun _ => ?_⟩
    simp [(empty_iff s.tx).mpr he]
  · refine ⟨hl, hi, hw, fun _ => ?_⟩
    simp [hf hinit, empty_eq_false hn]
  · exact ⟨hl, hi, hw, hf⟩

theorem exec_flagTracksBuffer {i : Instr} {s t : State} (hs : s.FlagTracksBuffer) (h : exec i s = .next t) :
    t.FlagTracksBuffer := by
  cases i with
  | init sel =>
    obtain ⟨-, rfl⟩ | ⟨-, rfl⟩ := execInit_next h
    · exact hs
    · obtain ⟨hl, hi, hw, -⟩ := hs
      exact ⟨hl, hi, hw, fun _ => rfl⟩
  | writeByte b =>
    obtain ⟨-, rfl⟩ | ⟨-, hb⟩ := execWriteByte_next h
    · exact hs
    · obtain ⟨hf, hw⟩ := (flagTracksBuffer_iff s).mp hs
      exact (flagTracksBuffer_iff t).mpr ⟨wbPhase1_flagFollows hf hb, wbPhase1_completes hf.1 hw hb⟩
  | readByte => obtain ⟨-, rfl⟩ | ⟨-, -, rfl⟩ | ⟨-, -, v, -, rfl⟩ | ⟨-, -, -, rfl⟩ := execReadByte_next h <;> exact hs
  | available => obtain ⟨-, rfl⟩ | ⟨-, rfl⟩ := execAvailable_next h <;> exact hs
  | flushRx => obtain ⟨-, rfl⟩ | ⟨-, rfl⟩ := execFlushRx_next h <;> exact hs
  | rxEvent b => obtain ⟨-, rfl⟩ | ⟨-, -, rfl⟩ | ⟨-, -, -, rfl⟩ := execRxEvent_next h <;> exact hs
  | txReady => exact execTxReady_flagTracksBuffer hs h
  | push b => obtain ⟨-, rfl⟩ | ⟨-, -, rfl⟩ := execPush_next h <;> exact hs
  | pop => obtain ⟨-, rfl⟩ | ⟨-, v, -, rfl⟩ | ⟨-, -, rfl⟩ := execPop_next h <;> exact hs
  | avail => obtain rfl := execAvail_next h; exact hs
  | clear => obtain rfl := execClear_next h; exact hs

theorem flagTracksBuffer_kept : KeptByParts State.FlagTracksBuffer where
  refusal _ _ hs := hs
  queue _ _ hs := hs
  choice _ hs := hs
  txDone _ hs := hs
  exec _ _ _ hs _ _ h := exec_flagTracksBuffer hs h
  writeBuffer _ _ _ hs _ h := execWriteBuffer_flagTracksBuffer hs h
  iterate _ _ _ hs _ hw _ := by
    obtain ⟨-, -, hnone, -⟩ := hs
    simp [hnone] at hw
  phase2 _ hs hp := by
    obtain ⟨-, hidle, -, -⟩ := hs
    simp [hidle] at hp

/-- Settles O21: every part of a step keeps the flag invariant; the parts between two phases cannot occur. -/
theorem blockLevelFlagTracksBuffer : Obligations.BlockLevelFlagTracksBuffer :=
  fun _ _ hs h => flagTracksBuffer_kept.step hs h

/-! ### The invariant of the machine (R21, R22, R24, R28, R31, R32, R35) -/

/-- The fields that `ControlOk` relates. -/
def State.controlPart (s : State) :
    Params × (Bool × Bool × Option BaudPair × Option (BitVec 4)) × Bool × AppPhase × Option WriteProgress :=
  (s.params, s.configPart, s.txie, s.appPhase, s.wb)

theorem State.ControlOk.of_controlPart {s t : State} (hs : s.ControlOk) (e : t.controlPart = s.controlPart) :
    t.ControlOk := by
  cases s
  cases t
  simp only [State.controlPart, State.configPart, Prod.mk.injEq] at e
  obtain ⟨rfl, ⟨rfl, rfl, rfl, rfl⟩, rfl, rfl, rfl⟩ := e
  exact ⟨hs.rxie_eq, hs.baudSel_isSome, hs.cfg_eq, hs.baudSel_lt, hs.before_init, hs.pending_byte⟩

section
variable {s t : State} (hs : s.Inv)
include hs

/-- A step that leaves the control fields keeps the invariant if its buffers are well formed. -/
theorem State.Inv.of_buffers (hrx : t.rx.Ok s.params.kRx) (htx : t.tx.Ok s.params.kTx)
    (hunit : t.unit.Ok s.params.kUnit) (e : t.controlPart = s.controlPart) : t.Inv := by
  have hp : t.params = s.params := congrArg Prod.fst e
  exact ⟨hp ▸ hrx, hp ▸ htx, hp ▸ hunit, hs.control.of_controlPart e⟩

/-- A step that leaves buffers and control fields keeps the invariant. -/
theorem State.Inv.of_same (hrx : t.rx = s.rx) (htx : t.tx = s.tx) (hunit : t.unit = s.unit)
    (e : t.controlPart = s.controlPart) : t.Inv :=
  hs.of_buffers (hrx ▸ hs.rx_ok) (htx ▸ hs.tx_ok) (hunit ▸ hs.unit_ok) e

/-- After `INIT`, an outbound write keeps the invariant if it leaves `tx` well formed and a byte to every pending phase 2. -/
theorem State.Inv.of_write (hi : s.initialized = true) (hf : s.withWriteFieldsOf t = t) (htx : t.tx.Ok s.params.kTx)
    (hp : t.appPhase = .enablePending → ∀ p, t.wb = some p → p.rest ≠ []) : t.Inv := by
  have hc : (s.withWriteFieldsOf t).ControlOk :=
    ⟨hs.control.rxie_eq, hs.control.baudSel_isSome, hs.control.cfg_eq, hs.control.baudSel_lt,
      fun hn => (nomatch hi.symm.trans hn), hp⟩
  exact hf ▸ ⟨hs.rx_ok, htx, hs.unit_ok, hc⟩

theorem State.Inv.setTxie (hi : s.initialized = true) (b : Bool) : (s.setTxie b).Inv :=
  hs.of_write hi rfl hs.tx_ok hs.control.pending_byte

theorem State.Inv.setWb (hi : s.initialized = true) (hidle : s.appPhase = .idle) (w : Option WriteProgress) :
    (s.setWb w).Inv :=
  hs.of_write hi rfl hs.tx_ok (fun hp => nomatch hidle.symm.trans hp)

/-- A command in progress is a command after `INIT`. -/
theorem State.Inv.initialized_of_busy (hb : ¬ s.appIdle) : s.initialized = true := by
  by_contra hn
  obtain ⟨-, hidle, hw⟩ := hs.control.before_init (Bool.eq_false_of_not_eq_true hn)
  exact hb ⟨hidle, hw⟩

theorem State.Inv.initialise {sel : BitVec 4} (hsel : sel.toNat < s.params.nb) :
    ((s.initialise sel).finish .unit).Inv where
  rx_ok := hs.rx_ok.clear
  tx_ok := hs.tx_ok.clear
  unit_ok := hs.unit_ok
  control :=
    { rxie_eq := rfl
      baudSel_isSome := rfl
      cfg_eq := rfl
      baudSel_lt := fun _ e => Option.some.inj e ▸ hsel
      before_init := fun hn => nomatch hn
      pending_byte := hs.control.pending_byte }

theorem wbPhase2_inv (hi : s.initialized = true) : s.wbPhase2.Inv := by
  have hf := wbPhase2_frame s
  obtain ⟨w, v, pc, e⟩ := wbPhase2_update s
  rw [e] at hf ⊢
  exact hs.of_write hi hf hs.tx_ok (fun hp => nomatch hp)

theorem wbPhase1_inv {b : Byte} (hi : s.initialized = true) (hidle : s.appPhase = .idle)
    (hrest : ∀ p, s.wb = some p → p.rest ≠ []) (h : wbPhase1 b s = .next t) : t.Inv := by
  have hf := wbPhase1_frame h
  obtain ⟨-, w, v, pc, rfl⟩ | ⟨hn, -, rfl⟩ | ⟨hn, -, w, v, pc, rfl⟩ := wbPhase1_update h
  · exact hs.of_write hi hf hs.tx_ok (fun hp => nomatch hidle.symm.trans hp)
  · exact hs.of_write hi hf (hs.tx_ok.pushed hn) (fun _ => hrest)
  · exact hs.of_write hi hf (hs.tx_ok.pushed hn) (fun hp => nomatch hp)

theorem writeBufferIterate_inv {p : WriteProgress} (hidle : s.appPhase = .idle) (hw : s.wb = some p)
    (h : writeBufferIterate p s = .next t) : t.Inv := by
  have hi : s.initialized = true := hs.initialized_of_busy (fun hn => nomatch hn.2.symm.trans hw)
  obtain ⟨-, rfl⟩ | ⟨b, rest, hr, hb⟩ := writeBufferIterate_next h
  · exact (hs.setWb hi hidle none).of_same rfl rfl rfl rfl
  · refine wbPhase1_inv hs hi hidle (fun q hq => ?_) hb
    obtain rfl : p = q := Option.some.inj (hw.symm.trans hq)
    simp [hr]

end

/-- What the loop of R155 keeps at the block level: the invariant, and no phase 2 outstanding between two bytes. -/
structure State.BetweenBytes (s : State) : Prop where
  inv : s.Inv
  initialized : s.initialized = true
  idle : s.appPhase = .idle
  blockLevel : s.level ≠ .platform

theorem setWb_betweenBytes {s : State} (w : Option WriteProgress) (hs : s.BetweenBytes) : (s.setWb w).BetweenBytes :=
  ⟨hs.inv.setWb hs.initialized hs.idle w, hs.initialized, hs.idle, hs.blockLevel⟩

theorem writeBufferIterate_betweenBytes {p : WriteProgress} {s t : State} (hs : s.BetweenBytes) (hw : s.wb = some p)
    (h : writeBufferIterate p s = .next t) : t.BetweenBytes := by
  have hf := writeBufferIterate_frame h
  exact
    { inv := writeBufferIterate_inv hs.inv hs.idle hw h
      initialized := (initialized_of_configPart (configPart_of_write hf)).trans hs.initialized
      idle := writeBufferIterate_idle hs.blockLevel hs.idle h
      blockLevel := hf ▸ hs.blockLevel }

section
variable {s t : State} (hs : s.Inv)
include hs

theorem execWriteBuffer_inv {bytes : List Byte} (hidle : s.appPhase = .idle) (h : execWriteBuffer bytes s = .next t) :
    t.Inv := by
  obtain ⟨-, rfl⟩ | ⟨hi, -, hit⟩ | ⟨hi, hl, hr⟩ := execWriteBuffer_next h
  · exact hs.of_same rfl rfl rfl rfl
  · exact writeBufferIterate_inv (hs.setWb hi hidle (some ⟨bytes, 0⟩)) hidle rfl hit
  · have hkept : t.BetweenBytes :=
      writeBufferRun_keeps State.BetweenBytes (fun _ w hu => setWb_betweenBytes w hu)
        (fun _ _ _ hu hw hit => writeBufferIterate_betweenBytes hu hw hit) bytes 0 s t ⟨hs, hi, hidle, hl⟩ hr
    exact hkept.inv

theorem exec_inv {i : Instr} (hwf : i.wf s.params.nb = true) (hidle : i.port = .app → s.appIdle)
    (h : exec i s = .next t) : t.Inv := by
  have hrx := hs.rx_ok
  have htx := hs.tx_ok
  have hunit := hs.unit_ok
  cases i with
  | init sel =>
    obtain ⟨-, rfl⟩ | ⟨-, rfl⟩ := execInit_next h
    · exact hs.of_same rfl rfl rfl rfl
    · exact hs.initialise (of_decide_eq_true hwf)
  | writeByte b =>
    obtain ⟨-, rfl⟩ | ⟨hi, hb⟩ := execWriteByte_next h
    · exact hs.of_same rfl rfl rfl rfl
    · obtain ⟨hp, hw⟩ := hidle rfl
      exact wbPhase1_inv hs hi hp (fun p e => nomatch hw.symm.trans e) hb
  | readByte =>
    obtain ⟨-, rfl⟩ | ⟨-, -, rfl⟩ | ⟨-, hn, v, -, rfl⟩ | ⟨-, -, -, rfl⟩ := execReadByte_next h
    · exact hs.of_same rfl rfl rfl rfl
    · exact hs.of_same rfl rfl rfl rfl
    · exact hs.of_buffers (hrx.popped hn) htx hunit rfl
    · exact hs.of_same rfl rfl rfl rfl
  | available => obtain ⟨-, rfl⟩ | ⟨-, rfl⟩ := execAvailable_next h <;> exact hs.of_same rfl rfl rfl rfl
  | flushRx =>
    obtain ⟨-, rfl⟩ | ⟨-, rfl⟩ := execFlushRx_next h
    · exact hs.of_same rfl rfl rfl rfl
    · exact hs.of_buffers hrx.clear htx hunit rfl
  | rxEvent b =>
    obtain ⟨-, rfl⟩ | ⟨-, -, rfl⟩ | ⟨-, hn, -, rfl⟩ := execRxEvent_next h
    · exact hs.of_same rfl rfl rfl rfl
    · exact hs.of_same rfl rfl rfl rfl
    · exact hs.of_buffers (hrx.pushed hn) htx hunit rfl
  | txReady =>
    obtain ⟨-, rfl⟩ | ⟨hi, -, rfl⟩ | ⟨hi, hn, v, -, B, rfl, rfl⟩ | ⟨-, -, -, rfl⟩ := execTxReady_next h
    · exact hs.of_same rfl rfl rfl rfl
    · exact hs.setTxie hi false
    · have hmid : ((s.setTx (s.tx.popped s.params.kTx)).writeTxRegister v).Inv :=
        hs.of_buffers hrx (htx.popped hn) hunit rfl
      exact hmid.setTxie hi _
    · exact hs.of_same rfl rfl rfl rfl
  | push b =>
    obtain ⟨-, rfl⟩ | ⟨hn, -, rfl⟩ := execPush_next h
    · exact hs.of_same rfl rfl rfl rfl
    · exact hs.of_buffers hrx htx (hunit.pushed hn) rfl
  | pop =>
    obtain ⟨-, rfl⟩ | ⟨hn, v, -, rfl⟩ | ⟨-, -, rfl⟩ := execPop_next h
    · exact hs.of_same rfl rfl rfl rfl
    · exact hs.of_buffers hrx htx (hunit.popped hn) rfl
    · exact hs.of_same rfl rfl rfl rfl
  | avail =>
    obtain rfl := execAvail_next h
    exact hs.of_same rfl rfl rfl rfl
  | clear =>
    obtain rfl := execClear_next h
    exact hs.of_buffers hrx htx hunit.clear rfl

end

theorem inv_kept : KeptByParts State.Inv where
  refusal _ _ hs := hs.of_same rfl rfl rfl rfl
  queue _ _ hs := hs.of_same rfl rfl rfl rfl
  choice _ hs := hs.of_same rfl rfl rfl rfl
  txDone _ hs := hs.of_same rfl rfl rfl rfl
  exec _ _ _ hs hwf hidle h := exec_inv hs hwf hidle h
  writeBuffer _ _ _ hs hidle h := execWriteBuffer_inv hs hidle.1 h
  iterate _ _ _ hs hidle hw h := writeBufferIterate_inv hs hidle hw h
  phase2 _ hs hp := wbPhase2_inv hs (hs.initialized_of_busy fun hidle => nomatch hidle.1.symm.trans hp)

/-- Settles O18: every part of a step keeps the invariant. -/
theorem everyStepKeepsTheInvariant : Obligations.EveryStepKeepsTheInvariant :=
  fun _ _ hs h => inv_kept.step hs h

/-- Settles O17: three fresh buffers, and every control field at its value before `INIT`. -/
theorem resetSatisfiesTheInvariant : Obligations.ResetSatisfiesTheInvariant where
  rx_ok := fresh_ok _
  tx_ok := fresh_ok _
  unit_ok := fresh_ok _
  control :=
    { rxie_eq := rfl
      baudSel_isSome := rfl
      cfg_eq := rfl
      baudSel_lt := fun _ e => nomatch e
      before_init := fun _ => ⟨rfl, rfl, rfl⟩
      pending_byte := fun hp => nomatch hp }

end Sys2Proof.Machine
end

section
/-! SUPPORT. The buffers' storage: where a `push` stores and what it leaves (R67, R123), an index that names no slot (R60, R61),
the word behind a decoded command (R111), and which context writes which index and slot (R62, R269); with the statements they
settle. -/

namespace Sys2Proof.Machine

/-! ### The slot that a storing command writes (R61, R67, R123) -/

/-- A buffer left alone or pushed to keeps its tail and every slot but the one at its head. -/
theorem keeps_tail_and_other_slots {k : Nat} {B B' : RingBuffer} {b : Byte} (h : B' = B ∨ B' = B.pushed k b) :
    B'.tail = B.tail ∧ ∀ a, a ≠ B.pushAddr → B'.memRead a = B.memRead a := by
  obtain rfl | rfl := h
  · exact ⟨rfl, fun _ _ => rfl⟩
  · exact ⟨rfl, fun _ ha => memory_read_write_other B.slots b ha⟩

theorem execPush_frame {b : Byte} {s t : State} (h : execPush b s = .next t) :
    t = { s with unit := t.unit, res := t.res } ∧
      (t.unit = s.unit ∨ t.unit = s.unit.pushed s.params.kUnit b) := by
  obtain ⟨-, rfl⟩ | ⟨-, -, rfl⟩ := execPush_next h
  · exact ⟨rfl, .inl rfl⟩
  · exact ⟨rfl, .inr rfl⟩

theorem execRxEvent_frame {b : Byte} {s t : State} (hi : s.initialized = true) (h : execRxEvent b s = .next t) :
    t = { s with rx := t.rx, rxLog := t.rxLog } ∧ (t.rx = s.rx ∨ t.rx = s.rx.pushed s.params.kRx b) := by
  obtain ⟨hn, -⟩ | ⟨-, -, rfl⟩ | ⟨-, -, -, rfl⟩ := execRxEvent_next h
  · simp [hi] at hn
  · exact ⟨rfl, .inl rfl⟩
  · exact ⟨rfl, .inr rfl⟩

theorem wbPhase1_tx {b : Byte} {s t : State} (h : wbPhase1 b s = .next t) :
    t.tx = s.tx ∨ t.tx = s.tx.pushed s.params.kTx b := by
  obtain ⟨-, w, v, pc, rfl⟩ | ⟨-, -, rfl⟩ | ⟨-, -, w, v, pc, rfl⟩ := wbPhase1_update h
  · exact .inl rfl
  · exact .inr rfl
  · exact .inr rfl

/-- Settles O54: each command leaves its buffer alone or pushes to it, in its own frame. -/
theorem storingCommandsFrame : Obligations.StoringCommandsFrame := by
  intro b s t
  refine ⟨fun h => ?_, fun hi h => ?_, fun hi h => ?_⟩
  · obtain ⟨hframe, hunit⟩ := execPush_frame h
    exact ⟨hframe, keeps_tail_and_other_slots hunit⟩
  · obtain ⟨hframe, hrx⟩ := execRxEvent_frame hi h
    exact ⟨hframe, keeps_tail_and_other_slots hrx⟩
  · rw [exec_writeByte_of_initialized b hi] at h
    exact ⟨(wbPhase1_frame h).symm, keeps_tail_and_other_slots (wbPhase1_tx h)⟩

/-! ### An index that names no slot (R60, R61, log entry 8) -/

theorem push_of_head_out_of_range {k : Nat} {B : RingBuffer} (b : Byte) (hh : 2 ^ k ≤ B.head)
    (hn : (B.head + 1) % 2 ^ k ≠ B.tail) : B.push k b = .noSlot B.head := by
  obtain ⟨hf, -⟩ | ⟨-, hlt, -⟩ | ⟨-, -, e⟩ := push_cases (k := k) (B := B) (b := b) rfl
  · exact absurd ((inc_eq_mod k B.head).symm.trans hf) hn
  · exact absurd hlt (Nat.not_lt.mpr hh)
  · exact e

theorem pop_of_tail_out_of_range {k : Nat} {B : RingBuffer} (ht : 2 ^ k ≤ B.tail) (hn : B.head ≠ B.tail) :
    B.pop k = .noSlot B.tail := by
  obtain ⟨he, -⟩ | ⟨-, hlt, -⟩ | ⟨-, hlt, -⟩ | ⟨-, -, e⟩ := pop_cases (k := k) (B := B) rfl
  · exact absurd he hn
  · exact absurd hlt (Nat.not_lt.mpr ht)
  · exact absurd hlt (Nat.not_lt.mpr ht)
  · exact e

/-- Settles O56: past the full or empty check `push` and `pop` answer `noSlot`, and each command turns that into its stop. -/
theorem indexOutOfRangeStops : Obligations.IndexOutOfRangeStops := by
  intro s b
  refine ⟨fun hh hn => ?_, fun ht hn => ?_, fun hi hh hn => ?_, fun hi ht hn => ?_, fun hi hh hn => ?_, fun hi ht hn => ?_⟩
  · simp [exec, execPush, push_of_head_out_of_range b hh hn]
  · simp [exec, execPop, pop_of_tail_out_of_range ht hn]
  · simp [exec, execRxEvent, whenInitialized_true, hi, push_of_head_out_of_range _ hh hn]
  · simp [exec, execReadByte, whenInitialized_true, hi, pop_of_tail_out_of_range ht hn]
  · simp [exec_writeByte_of_initialized, hi, wbPhase1, push_of_head_out_of_range b hh hn]
  · simp [exec, execTxReady, whenInitialized_true, hi, pop_of_tail_out_of_range ht hn]

/-! ### The word behind a decoded command (R91, R111) -/

theorem pack_fields (w : Word) : pack (opField w) (argField w) (dataField w) = w := by
  unfold pack opField argField dataField
  rw [BitVec.extractLsb'_append_extractLsb'_eq_extractLsb' (by decide),
    BitVec.extractLsb'_append_extractLsb'_eq_extractLsb' (by decide)]
  exact BitVec.extractLsb'_eq_self

section
variable {nb : Nat} {w : Word} {op : BitVec 4} (hop : (opField w).toNat = op.toNat)
include hop

theorem word_of_decodeByteForm {f : Byte → Instr} {i : Instr} (h : decodeByteForm w f = .ok i) :
    pack op 0 (dataField w) = w := by
  unfold decodeByteForm at h
  split at h
  · next ha => rw [← BitVec.eq_of_toNat_eq hop, ← ha, pack_fields]
  · cases h

theorem word_of_decodeBareForm {i j : Instr} (h : decodeBareForm w i = .ok j) : pack op 0 0 = w := by
  unfold decodeBareForm at h
  split at h
  · next ha =>
    split at h
    · next hd => rw [← BitVec.eq_of_toNat_eq hop, ← ha, ← hd, pack_fields]
    · cases h
  · cases h

theorem word_of_decodeInitForm {i : Instr} (h : decodeInitForm nb w = .ok i) : pack op (argField w) 0 = w := by
  unfold decodeInitForm at h
  split at h
  · next hd => rw [← BitVec.eq_of_toNat_eq hop, ← hd, pack_fields]
  · cases h

end

/-- A decoded word is the word of its command (R111). -/
theorem encode_of_decode {nb : Nat} {w : Word} {i : Instr} (h : decode nb w = .ok i) : encode i = w := by
  unfold decode at h
  split at h
  · next hop => obtain ⟨-, rfl⟩ := decodeInitForm_ok h; exact word_of_decodeInitForm hop h
  · next hop => obtain rfl := decodeByteForm_ok h; exact word_of_decodeByteForm hop h
  · next hop => obtain rfl := decodeBareForm_ok h; exact word_of_decodeBareForm hop h
  · next hop => obtain rfl := decodeBareForm_ok h; exact word_of_decodeBareForm hop h
  · next hop => obtain rfl := decodeBareForm_ok h; exact word_of_decodeBareForm hop h
  · next hop => obtain rfl := decodeByteForm_ok h; exact word_of_decodeByteForm hop h
  · next hop => obtain rfl := decodeBareForm_ok h; exact word_of_decodeBareForm hop h
  · next hop => obtain rfl := decodeByteForm_ok h; exact word_of_decodeByteForm hop h
  · next hop => obtain rfl := decodeBareForm_ok h; exact word_of_decodeBareForm hop h
  · next hop => obtain rfl := decodeBareForm_ok h; exact word_of_decodeBareForm hop h
  · next hop => obtain rfl := decodeBareForm_ok h; exact word_of_decodeBareForm hop h
  · cases h

/-! ### Which context writes which index and slot (R62, R269) -/

/-- What the handlers and the environment alone write after `INIT`; `rx.head` is also cleared by `FLUSH_RX`. -/
def State.handlerSide (s : State) : Memory × Nat × Nat := (s.rx.slots, s.tx.tail, s.rx.head)

/-- What the application alone writes after `INIT`. -/
def State.appSide (s : State) : Nat × Memory × Nat := (s.tx.head, s.tx.slots, s.rx.tail)

theorem handlerSide_eq_iff {s t : State} :
    t.handlerSide = s.handlerSide ↔ t.rx.slots = s.rx.slots ∧ t.tx.tail = s.tx.tail ∧ t.rx.head = s.rx.head := by
  simp [State.handlerSide]

theorem appSide_eq_iff {s t : State} :
    t.appSide = s.appSide ↔ t.tx.head = s.tx.head ∧ t.tx.slots = s.tx.slots ∧ t.rx.tail = s.rx.tail := by
  simp [State.appSide]

theorem wbPhase1_handlerSide {b : Byte} {s t : State} (h : wbPhase1 b s = .next t) :
    t.handlerSide = s.handlerSide := by
  obtain ⟨-, w, v, pc, rfl⟩ | ⟨-, -, rfl⟩ | ⟨-, -, w, v, pc, rfl⟩ := wbPhase1_update h <;> rfl

theorem wbPhase2_handlerSide (s : State) : s.wbPhase2.handlerSide = s.handlerSide := by
  obtain ⟨w, v, pc, e⟩ := wbPhase2_update s
  rw [e]
  rfl

theorem writeBufferIterate_handlerSide {p : WriteProgress} {s t : State} (h : writeBufferIterate p s = .next t) :
    t.handlerSide = s.handlerSide := by
  obtain ⟨-, rfl⟩ | ⟨b, rest, -, hb⟩ := writeBufferIterate_next h
  · rfl
  · exact wbPhase1_handlerSide hb

theorem execWriteBuffer_handlerSide {bytes : List Byte} {s t : State} (h : execWriteBuffer bytes s = .next t) :
    t.handlerSide = s.handlerSide := by
  obtain ⟨-, rfl⟩ | ⟨-, -, hit⟩ | ⟨-, -, hr⟩ := execWriteBuffer_next h
  · rfl
  · exact (writeBufferIterate_handlerSide hit).trans rfl
  · exact writeBufferRun_keeps (fun u => u.handlerSide = s.handlerSide) (fun _ _ hu => hu)
      (fun _ _ _ hu _ hit => (writeBufferIterate_handlerSide hit).trans hu) bytes 0 s t rfl hr

/-- After `INIT`, of the application's commands `FLUSH_RX` alone reaches over to the handlers' side (R158). -/
theorem exec_app_handlerSide {i : Instr} {s t : State} (hp : i.port = .app) (hne : i ≠ .flushRx)
    (hi : s.initialized = true) (h : exec i s = .next t) : t.handlerSide = s.handlerSide := by
  cases i with
  | init sel =>
    obtain ⟨-, rfl⟩ | ⟨hn, -⟩ := execInit_next h
    · rfl
    · simp [hi] at hn
  | writeByte b =>
    obtain ⟨-, rfl⟩ | ⟨-, hb⟩ := execWriteByte_next h
    · rfl
    · exact wbPhase1_handlerSide hb
  | readByte => obtain ⟨-, rfl⟩ | ⟨-, -, rfl⟩ | ⟨-, -, v, -, rfl⟩ | ⟨-, -, -, rfl⟩ := execReadByte_next h <;> rfl
  | available => obtain ⟨-, rfl⟩ | ⟨-, rfl⟩ := execAvailable_next h <;> rfl
  | flushRx => exact absurd rfl hne
  | _ => cases hp

theorem execFlushRx_keeps_slots_and_tx {s t : State} (h : execFlushRx s = .next t) :
    t.rx.slots = s.rx.slots ∧ t.tx = s.tx := by
  obtain ⟨-, rfl⟩ | ⟨-, rfl⟩ := execFlushRx_next h <;> exact ⟨rfl, rfl⟩

theorem admits_platform {p : Port} (h : Level.admits .platform p = true) : p = .app := by
  cases p with
  | app => rfl
  | irq => cases h
  | unit => cases h

theorem issue_handlerSide {c : Command} {s t : State} (hl : s.level = .platform) (hi : s.initialized = true)
    (h : issue c s = .next t) :
    t.handlerSide = s.handlerSide ∨ c = .word (encode .flushRx) ∧ t.rx.slots = s.rx.slots ∧ t.tx = s.tx := by
  obtain ⟨w, why, -, -, rfl⟩ | ⟨w, i, rfl, hd, ha, he⟩ | ⟨w, i, -, -, -, rfl⟩ | ⟨bytes, -, -, he⟩ | ⟨bytes, -, -, rfl⟩ :=
    issue_next h
  · exact .inl rfl
  · by_cases hflush : i = .flushRx
    · subst hflush
      exact .inr ⟨by rw [encode_of_decode hd], execFlushRx_keeps_slots_and_tx he⟩
    · exact .inl (exec_app_handlerSide (admits_platform (hl ▸ ha)) hflush hi he)
  · exact .inl rfl
  · exact .inl (execWriteBuffer_handlerSide he)
  · exact .inl rfl

theorem appStep_handlerSide {s t : State} (hl : s.level = .platform) (hi : s.initialized = true)
    (h : appStep s = .next t) :
    t.handlerSide = s.handlerSide ∨
      s.program[s.appPc]? = some (.word (encode .flushRx)) ∧ t.rx.slots = s.rx.slots ∧ t.tx = s.tx := by
  obtain ⟨-, rfl⟩ | ⟨-, p, -, hit⟩ | ⟨-, -, -, rfl⟩ | ⟨-, -, c, u, hc, hu⟩ := appStep_next h
  · exact .inl (wbPhase2_handlerSide s)
  · exact .inl (writeBufferIterate_handlerSide hit)
  · exact .inl rfl
  · obtain ⟨-, hprog, rfl⟩ | ⟨hn, -⟩ := nextCommand_some hc
    · exact (issue_handlerSide hl hi hu).imp_right fun ⟨e, hkept⟩ => ⟨e ▸ hprog, hkept⟩
    · exact absurd hl hn

theorem exec_irq_appSide {i : Instr} {s t : State} (hp : i.port = .irq) (h : exec i s = .next t) :
    t.appSide = s.appSide ∧ (t.txie = true → s.txie = true) := by
  cases i with
  | rxEvent b => obtain ⟨-, rfl⟩ | ⟨-, -, rfl⟩ | ⟨-, -, -, rfl⟩ := execRxEvent_next h <;> exact ⟨rfl, id⟩
  | txReady =>
    obtain ⟨-, rfl⟩ | ⟨-, -, rfl⟩ | ⟨-, -, v, -, B, rfl, rfl⟩ | ⟨-, -, -, rfl⟩ := execTxReady_next h
    · exact ⟨rfl, id⟩
    · exact ⟨rfl, fun hset => nomatch hset⟩
    · exact ⟨rfl, Bool.and_elim_left⟩
    · exact ⟨rfl, id⟩
  | _ => cases hp

theorem runMove_appSide {m : Move} {s t : State} (hm : m ≠ .app) (h : runMove m s = .next t) :
    t.appSide = s.appSide ∧ (t.txie = true → s.txie = true) := by
  cases m with
  | app => exact absurd rfl hm
  | rxEvent b => exact exec_irq_appSide (i := .rxEvent b) rfl h
  | txReady => exact exec_irq_appSide (i := .txReady) rfl h
  | txDone => cases h; exact ⟨rfl, id⟩

/-- In a live platform state a step runs the choice if it is enabled, and else passes it over (R242). -/
theorem step_live_platform {s t : State} (hs : s.live) (hl : s.level = .platform) (h : step s = .next t) :
    runMove s.nextMove s.takeMove = .next t ∨ t = s.takeMove := by
  obtain ⟨-, -, hw⟩ := hs
  obtain ⟨-, -, ⟨hbad, -⟩ | ⟨-, -, hp⟩ | ⟨-, hn, -⟩⟩ := step_next h
  · simp [hw] at hbad
  · exact (platformStep_next hp).imp And.right And.right
  · exact absurd hl hn

/-- Settles O26: `APP` keeps `handlerSide` but for `FLUSH_RX`, and the other agents keep `appSide`. -/
theorem singleWriterRoles : Obligations.SingleWriterRoles := by
  intro s t hs hl hi h
  constructor
  · intro hm
    have hkept : t.handlerSide = s.handlerSide ∨
        s.program[s.appPc]? = some (.word (encode .flushRx)) ∧ t.rx.slots = s.rx.slots ∧ t.tx = s.tx := by
      obtain hrun | rfl := step_live_platform hs hl h
      · rw [hm] at hrun
        exact appStep_handlerSide (s := s.takeMove) hl hi hrun
      · exact .inl rfl
    obtain hsame | ⟨hflush, hslots, htx⟩ := hkept
    · obtain ⟨hslots, htail, hhead⟩ := handlerSide_eq_iff.mp hsame
      exact ⟨hslots, htail, .inl hhead⟩
    · exact ⟨hslots, congrArg RingBuffer.tail htx, .inr hflush⟩
  · intro hm
    have hkept : t.appSide = s.appSide ∧ (t.txie = true → s.txie = true) := by
      obtain hrun | rfl := step_live_platform hs hl h
      · exact runMove_appSide (s := s.takeMove) hm hrun
      · exact ⟨rfl, id⟩
    obtain ⟨hsame, htxie⟩ := hkept
    obtain ⟨hhead, hslots, htail⟩ := appSide_eq_iff.mp hsame
    exact ⟨hhead, hslots, htail, htxie⟩

end Sys2Proof.Machine
end

section
/-! SUPPORT. The encoding: the fields of a packed word (R91), the decoder on encoded words (R93 to R104, R111), the words that a
match/mask row covers (R111), and what the sequencer does with a word that is illegal, on the wrong port or `WRITE_BUFFER` (R104,
R106, R109); with the statements they settle. -/

namespace Sys2Proof.Machine

/-! ### The fields of a packed word (R91) -/

section
variable (op arg : BitVec 4) (data : Byte)

@[simp] theorem opField_pack : opField (pack op arg data) = op := by
  unfold opField pack
  rw [BitVec.append_assoc]
  exact BitVec.extractLsb'_append_eq_left

@[simp] theorem argField_pack : argField (pack op arg data) = arg := by
  unfold argField pack
  rw [BitVec.extractLsb'_append_eq_of_le (by decide)]
  exact BitVec.extractLsb'_append_eq_right

@[simp] theorem dataField_pack : dataField (pack op arg data) = data := BitVec.extractLsb'_append_eq_right

end

/-! ### Decoding an encoded command (R93 to R103, R111) -/

theorem decodeByteForm_pack (op : BitVec 4) (data : Byte) (f : Byte → Instr) :
    decodeByteForm (pack op 0 data) f = .ok (f data) := by
  simp [decodeByteForm]

theorem decodeBareForm_pack (op : BitVec 4) (i : Instr) : decodeBareForm (pack op 0 0) i = .ok i := by
  simp [decodeBareForm]

theorem decodeInitForm_pack (op : BitVec 4) {nb : Nat} {sel : BitVec 4} (h : sel.toNat < nb) :
    decodeInitForm nb (pack op sel 0) = .ok (.init sel) := by
  simp [decodeInitForm, h]

/-- Settles O1: `decode` finds the form that `encode` wrote by the word's `OP`, and that form reads its operand back. -/
theorem decodeOfEncodeIsIdentity : Obligations.DecodeOfEncodeIsIdentity := by
  intro nb i hwf
  unfold decode encode
  cases i with
  | init sel =>
    simp only [opField_pack]
    exact decodeInitForm_pack _ (of_decide_eq_true hwf)
  | writeByte b | rxEvent b | push b =>
    simp only [opField_pack]
    exact decodeByteForm_pack _ b _
  | readByte | available | flushRx | txReady | pop | avail | clear =>
    simp only [opField_pack]
    exact decodeBareForm_pack _ _

/-- Settles O2: every form of the decoder fixes the fields that `encode` writes, and `INIT`'s checks the selector. -/
theorem encodeOfDecodeIsIdentity : Obligations.EncodeOfDecodeIsIdentity :=
  fun _ _ _ h => ⟨encode_of_decode h, decode_wf h⟩

/-- Settles O5, by running the decoder on the eight words. -/
theorem tabulatedWordsDecode : Obligations.TabulatedWordsDecode := by
  unfold Obligations.TabulatedWordsDecode
  decide

/-! ### The words that a match/mask row covers (R93 to R103, R111) -/

theorem encode_is_covered (i : Instr) : ∃ r ∈ rows, r.mnemonic = i.mnemonic ∧ r.covers (encode i) :=
  match i with
  | .init sel => Laws.EncodedRow.init sel
  | .writeByte b => Laws.EncodedRow.writeByte b
  | .readByte => Laws.EncodedRow.readByte
  | .available => Laws.EncodedRow.available
  | .flushRx => Laws.EncodedRow.flushRx
  | .rxEvent b => Laws.EncodedRow.rxEvent b
  | .txReady => Laws.EncodedRow.txReady
  | .push b => Laws.EncodedRow.push b
  | .pop => Laws.EncodedRow.pop
  | .avail => Laws.EncodedRow.avail
  | .clear => Laws.EncodedRow.clear

/-- Only `INIT` has an operand that well-formedness restricts, and its word carries it in `ARG`. -/
theorem wf_iff_selector_lt (nb : Nat) (i : Instr) :
    i.wf nb = true ↔ (i.mnemonic = "INIT" → (argField (encode i)).toNat < nb) := by
  cases i <;> simp [Instr.wf, Instr.mnemonic, encode]

/-- Masking acts on each field by itself. -/
theorem fields_of_covers {r : Row} {w : Word} (h : r.covers w) :
    opField w &&& opField r.mask = opField r.pattern ∧ argField w &&& argField r.mask = argField r.pattern ∧
      dataField w &&& dataField r.mask = dataField r.pattern :=
  ⟨BitVec.extractLsb'_and.symm.trans (congrArg opField h), BitVec.extractLsb'_and.symm.trans (congrArg argField h),
    BitVec.extractLsb'_and.symm.trans (congrArg dataField h)⟩

section
variable {w : Word} {m : String} (op : BitVec 4)

/-- A row whose mask keeps `OP` and `ARG` covers the words of a command with a byte operand. -/
theorem word_of_byteRow (h : Row.covers ⟨m, pack op 0 0, pack 0xF 0xF 0⟩ w) : pack op 0 (dataField w) = w := by
  obtain ⟨hop, harg, -⟩ := fields_of_covers h
  simp only [opField_pack, argField_pack] at hop harg
  have hop' : opField w = op := BitVec.and_allOnes.symm.trans hop
  have harg' : argField w = 0 := BitVec.and_allOnes.symm.trans harg
  rw [← hop', ← harg', pack_fields]

/-- A row whose mask keeps every bit covers the word of a command with no operand. -/
theorem word_of_bareRow (h : Row.covers ⟨m, pack op 0 0, 0xFFFF⟩ w) : pack op 0 0 = w :=
  h.symm.trans BitVec.and_allOnes

/-- A row whose mask keeps `OP` and `DATA` covers the words of `INIT`. -/
theorem word_of_initRow (h : Row.covers ⟨m, pack op 0 0, pack 0xF 0 0xFF⟩ w) : pack op (argField w) 0 = w := by
  obtain ⟨hop, -, hdata⟩ := fields_of_covers h
  simp only [opField_pack, dataField_pack] at hop hdata
  have hop' : opField w = op := BitVec.and_allOnes.symm.trans hop
  have hdata' : dataField w = 0 := BitVec.and_allOnes.symm.trans hdata
  rw [← hop', ← hdata', pack_fields]

end

/-- A covered word is the word of a command with the row's mnemonic. -/
theorem encode_of_covers {r : Row} {w : Word} (hr : r ∈ rows) (h : r.covers w) :
    ∃ i : Instr, i.mnemonic = r.mnemonic ∧ encode i = w := by
  simp only [rows, List.mem_cons, List.not_mem_nil, or_false] at hr
  obtain rfl | rfl | rfl | rfl | rfl | rfl | rfl | rfl | rfl | rfl | rfl := hr
  · exact ⟨.init (argField w), rfl, word_of_initRow 0x1 h⟩
  · exact ⟨.writeByte (dataField w), rfl, word_of_byteRow 0x2 h⟩
  · exact ⟨.readByte, rfl, word_of_bareRow 0x3 h⟩
  · exact ⟨.available, rfl, word_of_bareRow 0x4 h⟩
  · exact ⟨.flushRx, rfl, word_of_bareRow 0x5 h⟩
  · exact ⟨.rxEvent (dataField w), rfl, word_of_byteRow 0x8 h⟩
  · exact ⟨.txReady, rfl, word_of_bareRow 0x9 h⟩
  · exact ⟨.push (dataField w), rfl, word_of_byteRow 0xC h⟩
  · exact ⟨.pop, rfl, word_of_bareRow 0xD h⟩
  · exact ⟨.avail, rfl, word_of_bareRow 0xE h⟩
  · exact ⟨.clear, rfl, word_of_bareRow 0xF h⟩

/-- Every mask keeps all of `OP`. -/
theorem opField_of_covers {r : Row} {w : Word} (hr : r ∈ rows) (h : r.covers w) : opField w = opField r.pattern := by
  have hmask : ∀ r ∈ rows, opField r.mask = BitVec.allOnes 4 := by decide
  obtain ⟨hop, -, -⟩ := fields_of_covers h
  rwa [hmask r hr, BitVec.and_allOnes] at hop

theorem rows_eq_of_opField : ∀ r ∈ rows, ∀ r' ∈ rows, opField r.pattern = opField r'.pattern → r = r' := by decide

/-- Settles O3: a word is legal exactly when it is the word of a well-formed command (O1, O2), those are the words that the
rows cover, and no two rows share an `OP`. -/
theorem decoderFollowsMatchAndMask : Obligations.DecoderFollowsMatchAndMask := by
  refine ⟨fun nb w i h => ?_, fun nb w r hr hc hsel => ?_, fun w r hr r' hr' hc hc' => ?_⟩
  · obtain ⟨rfl, hwf⟩ := encodeOfDecodeIsIdentity nb w i h
    obtain ⟨r, hr, hm, hc⟩ := encode_is_covered i
    exact ⟨r, hr, hm, hc, hm ▸ (wf_iff_selector_lt nb i).mp hwf⟩
  · obtain ⟨i, hm, rfl⟩ := encode_of_covers hr hc
    have hwf : i.wf nb = true := (wf_iff_selector_lt nb i).mpr (hm ▸ hsel)
    exact ⟨i, decodeOfEncodeIsIdentity nb i hwf, hm⟩
  · exact rows_eq_of_opField r hr r' hr' ((opField_of_covers hr hc).symm.trans (opField_of_covers hr' hc'))

/-! ### The illegal words (R104, R105) -/

theorem decodeByteForm_illegal_iff (w : Word) (f : Byte → Instr) :
    (∃ why, decodeByteForm w f = .illegal why) ↔ argField w ≠ 0 := by
  unfold decodeByteForm
  split
  · next harg => simp [harg]
  · next harg => exact ⟨fun _ => harg, fun _ => ⟨_, rfl⟩⟩

theorem decodeBareForm_illegal_iff (w : Word) (i : Instr) :
    (∃ why, decodeBareForm w i = .illegal why) ↔ argField w ≠ 0 ∨ dataField w ≠ 0 := by
  unfold decodeBareForm
  split
  · next harg =>
    split
    · next hdata => simp [harg, hdata]
    · next hdata => exact ⟨fun _ => .inr hdata, fun _ => ⟨_, rfl⟩⟩
  · next harg => exact ⟨fun _ => .inl harg, fun _ => ⟨_, rfl⟩⟩

theorem decodeInitForm_illegal_iff (nb : Nat) (w : Word) :
    (∃ why, decodeInitForm nb w = .illegal why) ↔ dataField w ≠ 0 ∨ nb ≤ (argField w).toNat := by
  unfold decodeInitForm
  split
  · next hdata =>
    split
    · next hlt => simp [hdata, hlt]
    · next hge => exact ⟨fun _ => .inr (not_lt.mp hge), fun _ => ⟨_, rfl⟩⟩
  · next hdata => exact ⟨fun _ => .inl hdata, fun _ => ⟨_, rfl⟩⟩

/-- The operation codes that no command has (R105). -/
def unusedOps : List (BitVec 4) := [0x0, 0x6, 0x7, 0xA, 0xB]

/-- The operation codes of the commands with a byte operand (R94, R98, R100). -/
def byteOps : List (BitVec 4) := [0x2, 0x8, 0xC]

/-- The operation codes of the commands with no operand (R95 to R97, R99, R101 to R103). -/
def bareOps : List (BitVec 4) := [0x3, 0x4, 0x5, 0x9, 0xD, 0xE, 0xF]

theorem op_cases : ∀ op : BitVec 4, op ∈ unusedOps ∨ op = 0x1 ∨ op ∈ byteOps ∨ op ∈ bareOps := by decide

section
variable (nb : Nat) {w : Word}

theorem decode_of_unusedOp (h : opField w ∈ unusedOps) : decode nb w = .illegal .opcode := by
  simp only [unusedOps, List.mem_cons, List.not_mem_nil, or_false] at h
  unfold decode
  obtain h | h | h | h | h := h <;> rw [h] <;> rfl

theorem decode_of_initOp (h : opField w = 0x1) : decode nb w = decodeInitForm nb w := by
  unfold decode
  rw [h]
  rfl

theorem decode_of_byteOp (h : opField w ∈ byteOps) : ∃ f, decode nb w = decodeByteForm w f := by
  simp only [byteOps, List.mem_cons, List.not_mem_nil, or_false] at h
  unfold decode
  obtain h | h | h := h <;> rw [h] <;> exact ⟨_, rfl⟩

theorem decode_of_bareOp (h : opField w ∈ bareOps) : ∃ i, decode nb w = decodeBareForm w i := by
  simp only [bareOps, List.mem_cons, List.not_mem_nil, or_false] at h
  unfold decode
  obtain h | h | h | h | h | h | h := h <;> rw [h] <;> exact ⟨_, rfl⟩

end

/-- The kind of `OP` says which fields must be zero. -/
theorem decode_illegal_iff (nb : Nat) (w : Word) : (∃ why, decode nb w = .illegal why) ↔
    (opField w ∈ unusedOps ∨ (opField w ≠ 0x1 ∧ argField w ≠ 0) ∨ (opField w ∉ byteOps ∧ dataField w ≠ 0) ∨
      (opField w = 0x1 ∧ nb ≤ (argField w).toNat)) := by
  obtain hunused | hinit | hbyte | hbare := op_cases (opField w)
  · exact ⟨fun _ => .inl hunused, fun _ => ⟨_, decode_of_unusedOp nb hunused⟩⟩
  · rw [decode_of_initOp nb hinit, decodeInitForm_illegal_iff, hinit]
    have hused : 0x1#4 ∉ unusedOps ∧ 0x1#4 ∉ byteOps := by decide
    simp [hused]
  · obtain ⟨f, hd⟩ := decode_of_byteOp nb hbyte
    have hother : ∀ op ∈ byteOps, op ∉ unusedOps ∧ op ≠ 0x1 := by decide
    obtain ⟨hused, hne⟩ := hother _ hbyte
    rw [hd, decodeByteForm_illegal_iff]
    tauto
  · obtain ⟨i, hd⟩ := decode_of_bareOp nb hbare
    have hother : ∀ op ∈ bareOps, op ∉ unusedOps ∧ op ≠ 0x1 ∧ op ∉ byteOps := by decide
    obtain ⟨hused, hne, hnb⟩ := hother _ hbare
    rw [hd, decodeBareForm_illegal_iff]
    tauto

/-- Issuing an illegal word records it and nothing else (R104). -/
theorem issue_of_illegal {s : State} {w : Word} {why : Illegal} (h : decode s.params.nb w = .illegal why) :
    issue (.word w) s = .next (s.recordRefusal (.illegalEncoding w)) := by
  simp [issue, h, refuse_eq]

/-- Settles O4: `decode_illegal_iff` for the words, `issue_of_illegal` for the refusal. -/
theorem illegalWordsAreRefused : Obligations.IllegalWordsAreRefused := ⟨decode_illegal_iff, fun _ _ _ => issue_of_illegal⟩

/-! ### The port check (R106) -/

section
variable {s : State} {l : Level} (hl : s.level = l)
include hl

theorem issue_word_of_wrongPort {w : Word} {i : Instr} (hd : decode s.params.nb w = .ok i)
    (ha : l.admits i.port = false) : issue (.word w) s = .next (s.recordRefusal (.wrongPort (.word w) l.issuePort)) := by
  simp [issue, hl, hd, ha, refuse_eq]

theorem issue_writeBuffer_of_wrongPort (bytes : List Byte) (ha : l.admits .app = false) :
    issue (.writeBuffer bytes) s = .next (s.recordRefusal (.wrongPort (.writeBuffer bytes) l.issuePort)) := by
  simp [issue, hl, ha, refuse_eq]

theorem issue_writeBuffer_of_admits (bytes : List Byte) (ha : l.admits .app = true) :
    issue (.writeBuffer bytes) s = execWriteBuffer bytes s := by
  simp [issue, hl, ha]

end

theorem admits_unit_of_ne {p : Port} (h : p ≠ .unit) : Level.admits .unit p = false := by
  cases p with
  | unit => exact absurd rfl h
  | app | irq => rfl

theorem admits_platform_of_ne {p : Port} (h : p ≠ .app) : Level.admits .platform p = false :=
  Bool.eq_false_iff.mpr fun ha => h (admits_platform ha)

/-- Settles O15: in each clause the sequence does not admit the command's port, and `issue` then records the port it was
issued from. -/
theorem wrongPortIsRefused : Obligations.WrongPortIsRefused := by
  intro s w i hd
  refine ⟨fun hl hp => ?_, fun hl hp => ?_, fun hl hp => ?_, fun bytes hl => ?_⟩
  · exact issue_word_of_wrongPort hl hd (by rw [hp]; rfl)
  · exact issue_word_of_wrongPort hl hd (admits_unit_of_ne hp)
  · exact issue_word_of_wrongPort hl hd (admits_platform_of_ne hp)
  · exact issue_writeBuffer_of_wrongPort hl bytes rfl

/-! ### The step that issues `WRITE_BUFFER` (R106, R109, R155) -/

/-- Settles O8: each level's step fetches the pseudo-command, and both levels admit its port. -/
theorem stepRunsWriteBuffer : Obligations.StepRunsWriteBuffer := by
  intro s bytes hs hidle
  constructor
  · intro cs hl hq
    have hblock : s.level ≠ .platform := by simp [hl]
    calc step s = appStep s := step_eq_appStep hs hblock
      _ = issue (.writeBuffer bytes) (s.setQueue cs) := appStep_of_nextCommand hidle (nextCommand_of_queue hblock hq)
      _ = execWriteBuffer bytes (s.setQueue cs) := issue_writeBuffer_of_admits (s := s.setQueue cs) hl bytes rfl
  · intro hl hm hc
    have he : s.enabled s.nextMove = true := hm ▸ app_enabled_of_program hs hc
    calc step s = runMove .app s.takeMove := by rw [step_eq_runMove hs hl he, hm]
      _ = appStep s.takeMove := rfl
      _ = issue (.writeBuffer bytes) s.takeMove := appStep_of_nextCommand hidle (nextCommand_of_program hl hc)
      _ = execWriteBuffer bytes s.takeMove := issue_writeBuffer_of_admits (s := s.takeMove) hl bytes rfl

/-! ### The assembler's selector (R93, R108) -/

/-- Settles O6: `findIdx` stops at an entry that is the rate, and an index below 16 survives the four bits of `ARG`. -/
theorem assemblerSelectsTheRate : Obligations.AssemblerSelectsTheRate := by
  intro p rate sel h
  simp only [rateSelector] at h
  split at h
  · next hn =>
    obtain ⟨hlt, hlt16⟩ := hn
    cases h
    have hrate := List.findIdx_getElem (w := hlt)
    simp only [decide_eq_true_eq] at hrate
    simp [baudRate, Nat.mod_eq_of_lt hlt16, List.getElem?_eq_getElem hlt, hrate]
  · cases h

end Sys2Proof.Machine
end

section
/-! SUPPORT. The standalone unit: what each answer of a UNIT command leaves (R123 to R126), the unit as a queue that a sequence of
commands fills and drains (R128, R129), the capacity of a buffer (R122), and the frame of the commands that store nothing (R125,
R126, R130, R151, R156 to R158, R193); with the statements they settle. -/

namespace Sys2Proof.Machine

/-! ### The answers of `push` and `pop` in range (R123, R124) -/

section
variable {k : Nat} {B : RingBuffer}

theorem push_of_full (b : Byte) (hf : inc k B.head = B.tail) : B.push k b = .full := if_pos hf

theorem push_of_room (b : Byte) (hh : B.head < capacity k) (hn : inc k B.head ≠ B.tail) :
    B.push k b = .stored (B.pushed k b) :=
  (if_neg hn).trans (if_pos hh)

theorem pop_of_empty (he : B.head = B.tail) : B.pop k = .empty := if_pos he

theorem pop_of_written {v : Byte} (ht : B.tail < capacity k) (hn : B.head ≠ B.tail) (hv : B.memRead B.tail = some v) :
    B.pop k = .taken v (B.popped k) := by
  simp [RingBuffer.pop, RingBuffer.popAddr, RingBuffer.popped, hn, ht, hv]

theorem pop_of_unwritten (ht : B.tail < capacity k) (hn : B.head ≠ B.tail) (hv : B.memRead B.tail = none) :
    B.pop k = .unwritten B.tail := by
  simp [RingBuffer.pop, RingBuffer.popAddr, hn, ht, hv]

end

/-- Settles O29: one turn of the ring at most lies between two indices in range. -/
theorem usableCapacityIsOneLess : Obligations.UsableCapacityIsOneLess := by
  intro k B (hh : B.head < capacity k) (ht : B.tail < capacity k)
  have ha := available_of_lt hh ht
  refine ⟨Nat.le_sub_one_of_lt (available_lt k B), ?_, ?_⟩
  · change B.full k = true ↔ B.available k = capacity k - 1
    rw [full_iff, inc_of_lt hh, ha]
    split <;> split <;> omega
  · rw [empty_iff, ha]
    split <;> omega

/-! ### The answers of the unit's commands (R123 to R126, R130) -/

section
variable {s : State}

theorem exec_push_of_full (b : Byte) (hf : inc s.params.kUnit s.unit.head = s.unit.tail) :
    exec (.push b) s = .next (s.setRes (.bool false)) := by
  simp [exec, execPush, push_of_full b hf]

theorem exec_push_of_room (b : Byte) (hh : s.unit.head < capacity s.params.kUnit)
    (hn : inc s.params.kUnit s.unit.head ≠ s.unit.tail) :
    exec (.push b) s = .next ((s.setUnit (s.unit.pushed s.params.kUnit b)).setRes (.bool true)) := by
  simp [exec, execPush, push_of_room b hh hn]

theorem exec_pop_of_empty (he : s.unit.head = s.unit.tail) :
    exec .pop s = .next (s.setRes (.optByte none)) := by
  simp [exec, execPop, pop_of_empty he]

theorem exec_pop_of_written {v : Byte} (ht : s.unit.tail < capacity s.params.kUnit) (hn : s.unit.head ≠ s.unit.tail)
    (hv : s.unit.memRead s.unit.tail = some v) :
    exec .pop s = .next ((s.setUnit (s.unit.popped s.params.kUnit)).setRes (.optByte (some v))) := by
  simp [exec, execPop, pop_of_written ht hn hv]

theorem exec_pop_of_unwritten (ht : s.unit.tail < capacity s.params.kUnit) (hn : s.unit.head ≠ s.unit.tail)
    (hv : s.unit.memRead s.unit.tail = none) :
    exec .pop s = .next (s.recordFault (.unwrittenSlot (.word (encode .pop)) .unit s.unit.tail)) := by
  simp [exec, execPop, pop_of_unwritten ht hn hv, raiseFault_eq]

end

theorem exec_avail (s : State) : exec .avail s = .next (s.setRes (.nat (s.unit.available s.params.kUnit))) := rfl

theorem exec_clear (s : State) : exec .clear s = .next ((s.setUnit s.unit.clear).setRes .unit) := rfl

/-- Settles O32: the two answers of `push` with the head in range. -/
theorem pushStoresAtTheHead : Obligations.PushStoresAtTheHead := by
  intro s b hh
  have hinc : inc s.params.kUnit s.unit.head = (s.unit.head + 1) % 2 ^ s.params.kUnit := inc_eq_mod _ _
  rw [← hinc]
  exact ⟨fun hf => exec_push_of_full b hf, fun hn => exec_push_of_room b hh hn⟩

/-- Settles O33: the three answers of `pop` with the tail in range. -/
theorem popTakesFromTheTail : Obligations.PopTakesFromTheTail := by
  intro s ht
  have hinc : inc s.params.kUnit s.unit.tail = (s.unit.tail + 1) % 2 ^ s.params.kUnit := inc_eq_mod _ _
  rw [← hinc]
  exact ⟨fun he => exec_pop_of_empty he, fun _ hn hv => exec_pop_of_written ht hn hv,
    fun hn hv => exec_pop_of_unwritten ht hn hv⟩

/-- Settles O34: `available` is `dist`, which is the difference modulo `N`. -/
theorem availCountsUnreadBytes : Obligations.AvailCountsUnreadBytes := by
  intro s
  have hcount : s.unit.available s.params.kUnit =
      (s.unit.head + 2 ^ s.params.kUnit - s.unit.tail) % 2 ^ s.params.kUnit := dist_eq_mod _ _ _
  rw [← hcount]
  exact exec_avail s

/-- Settles O35: the one answer of `CLEAR`. -/
theorem clearEmptiesTheUnit : Obligations.ClearEmptiesTheUnit := exec_clear

/-! ### The unit as a queue (R24, R122 to R125) -/

/-- The unit is a well-formed buffer of `2^k` slots that holds the bytes `q`, oldest first. -/
structure State.UnitHolds (s : State) (k : Nat) (q : List Byte) : Prop where
  width : s.params.kUnit = k
  ok : s.unit.Ok k
  contents : s.unit.contents k = q

theorem unitHolds_nil_of_empty {s : State} (hok : s.unit.Ok s.params.kUnit) (he : s.unit.empty = true) :
    s.UnitHolds s.params.kUnit [] := by
  have hzero : s.unit.available s.params.kUnit = 0 := hok.available_zero_iff.mpr ((empty_iff s.unit).mp he)
  exact ⟨rfl, hok, List.eq_nil_of_length_eq_zero (hok.length_contents.trans hzero)⟩

section
variable {s : State} {k : Nat} {q : List Byte} (h : s.UnitHolds k q)
include h

theorem State.UnitHolds.available_eq : s.unit.available k = q.length := by
  rw [← h.ok.length_contents, h.contents]

theorem State.UnitHolds.length_le : q.length ≤ capacity k - 1 :=
  h.available_eq ▸ Nat.le_sub_one_of_lt (available_lt k s.unit)

theorem State.UnitHolds.full_iff : inc k s.unit.head = s.unit.tail ↔ q.length = capacity k - 1 := by
  rw [h.ok.full_iff_available, h.available_eq]

theorem State.UnitHolds.empty_iff : s.unit.head = s.unit.tail ↔ q = [] := by
  rw [← h.ok.available_zero_iff, h.available_eq, List.length_eq_zero_iff]

theorem State.UnitHolds.setRes (r : Result) : (s.setRes r).UnitHolds k q := ⟨h.width, h.ok, h.contents⟩

theorem State.UnitHolds.exec_push_full (b : Byte) (hfull : q.length = capacity k - 1) :
    exec (.push b) s = .next (s.setRes (.bool false)) := by
  have hf := h.full_iff.mpr hfull
  obtain ⟨rfl, -, -⟩ := h
  exact exec_push_of_full b hf

theorem State.UnitHolds.exec_push_stored (b : Byte) (hroom : q.length ≠ capacity k - 1) :
    ∃ t, exec (.push b) s = .next t ∧ t.res = some (.bool true) ∧ t.UnitHolds k (q ++ [b]) := by
  have hn := mt h.full_iff.mp hroom
  obtain ⟨rfl, hok, rfl⟩ := h
  exact ⟨_, exec_push_of_room b hok.head_lt hn, rfl, rfl, hok.pushed hn, hok.contents_pushed hn⟩

theorem State.UnitHolds.exec_avail : exec .avail s = .next (s.setRes (.nat q.length)) := by
  have ha := h.available_eq
  obtain ⟨rfl, -, -⟩ := h
  exact ha ▸ Sys2Proof.Machine.exec_avail s

end

theorem State.UnitHolds.exec_pop_empty {s : State} {k : Nat} (h : s.UnitHolds k []) :
    exec .pop s = .next (s.setRes (.optByte none)) :=
  exec_pop_of_empty (h.empty_iff.mpr rfl)

theorem State.UnitHolds.exec_pop_taken {s : State} {k : Nat} {v : Byte} {q : List Byte} (h : s.UnitHolds k (v :: q)) :
    ∃ t, exec .pop s = .next t ∧ t.res = some (.optByte (some v)) ∧ t.UnitHolds k q := by
  have hn : s.unit.head ≠ s.unit.tail := mt h.empty_iff.mp (List.cons_ne_nil v q)
  obtain ⟨rfl, hok, hq⟩ := h
  obtain ⟨w, hw⟩ := Option.isSome_iff_exists.mp (hok.memRead_tail_isSome hn)
  obtain ⟨rfl, hrest⟩ := List.cons.inj ((hok.contents_popped hn hw).symm.trans hq)
  exact ⟨_, exec_pop_of_written hok.tail_lt hn hw, rfl, rfl, hok.popped hn, hrest⟩

/-! ### Sequences of the unit's commands (R128, R129) -/

section
variable {i : Instr} {s t : State} (he : exec i s = .next t) (is : List Instr)
include he

theorem execAll_cons : execAll (i :: is) s = execAll is t := by
  simp [execAll, he]

theorem resultsOf_cons : resultsOf (i :: is) s = t.res :: resultsOf is t := by
  simp [resultsOf, he]

theorem pushedBytes_cons : pushedBytes (i :: is) s = pushedBytes [i] s ++ pushedBytes is t := by
  simp [pushedBytes, he]

theorem poppedBytes_cons : poppedBytes (i :: is) s = poppedBytes [i] s ++ poppedBytes is t := by
  simp [poppedBytes, he]

end

/-- The conservation law of one command: held and pushed bytes are the popped and the still held ones, in that order. -/
theorem State.UnitHolds.exec_conserves {s : State} {k : Nat} {q : List Byte} {i : Instr} (h : s.UnitHolds k q)
    (hi : isPushPopAvail i = true) :
    ∃ t q', exec i s = .next t ∧ t.UnitHolds k q' ∧ q ++ pushedBytes [i] s = poppedBytes [i] s ++ q' := by
  cases i with
  | push b =>
    by_cases hfull : q.length = capacity k - 1
    · have he := h.exec_push_full b hfull
      exact ⟨_, q, he, h.setRes _, by simp [pushedBytes, poppedBytes, he]⟩
    · obtain ⟨t, he, hres, ht⟩ := h.exec_push_stored b hfull
      exact ⟨t, q ++ [b], he, ht, by simp [pushedBytes, poppedBytes, he, hres]⟩
  | pop =>
    cases q with
    | nil =>
      have he := h.exec_pop_empty
      exact ⟨_, [], he, h.setRes _, by simp [pushedBytes, poppedBytes, he]⟩
    | cons v q =>
      obtain ⟨t, he, hres, ht⟩ := h.exec_pop_taken
      exact ⟨t, q, he, ht, by simp [pushedBytes, poppedBytes, he, hres]⟩
  | avail =>
    have he := h.exec_avail
    exact ⟨_, q, he, h.setRes _, by simp [pushedBytes, poppedBytes, he]⟩
  | _ => cases hi

/-- The conservation law of an interleaving of `PUSH`, `POP` and `AVAIL`. -/
theorem State.UnitHolds.execAll_conserves {s : State} {k : Nat} {q : List Byte} {is : List Instr}
    (h : s.UnitHolds k q) (his : ∀ i ∈ is, isPushPopAvail i = true) :
    ∃ t q', execAll is s = some t ∧ t.UnitHolds k q' ∧ q ++ pushedBytes is s = poppedBytes is s ++ q' := by
  induction is generalizing s q with
  | nil => exact ⟨s, q, rfl, h, by simp [pushedBytes, poppedBytes]⟩
  | cons i is ih =>
    obtain ⟨hi, his⟩ := List.forall_mem_cons.mp his
    obtain ⟨t, q', he, ht, hone⟩ := h.exec_conserves hi
    obtain ⟨u, q'', hall, hu, hrest⟩ := ih ht his
    refine ⟨u, q'', (execAll_cons he is).trans hall, hu, ?_⟩
    calc q ++ pushedBytes (i :: is) s = (q ++ pushedBytes [i] s) ++ pushedBytes is t := by
          rw [pushedBytes_cons he, List.append_assoc]
      _ = poppedBytes [i] s ++ (q' ++ pushedBytes is t) := by rw [hone, List.append_assoc]
      _ = poppedBytes [i] s ++ (poppedBytes is t ++ q'') := by rw [hrest]
      _ = poppedBytes (i :: is) s ++ q'' := by rw [poppedBytes_cons he is, List.append_assoc]

/-- Pushes that fit all return `true`, and whatever follows them starts from the longer queue. -/
theorem State.UnitHolds.resultsOf_pushes {s : State} {k : Nat} {q bs : List Byte} (h : s.UnitHolds k q)
    (hfit : q.length + bs.length ≤ capacity k - 1) (is : List Instr) :
    ∃ t, t.UnitHolds k (q ++ bs) ∧
      resultsOf (bs.map .push ++ is) s = List.replicate bs.length (some (.bool true)) ++ resultsOf is t := by
  induction bs generalizing s q with
  | nil => exact ⟨s, by rwa [List.append_nil], rfl⟩
  | cons b bs ih =>
    rw [List.length_cons] at hfit
    obtain ⟨t, he, hres, ht⟩ := h.exec_push_stored b (by omega)
    obtain ⟨u, hu, hrest⟩ := ih ht (by rw [List.length_append, List.length_singleton]; omega)
    rw [List.append_assoc] at hu
    refine ⟨u, hu, ?_⟩
    rw [List.map_cons, List.cons_append, resultsOf_cons he, hres, hrest]
    rfl

/-- As many pops as the unit holds bytes return them, oldest first. -/
theorem State.UnitHolds.resultsOf_pops {s : State} {k : Nat} {q : List Byte} (h : s.UnitHolds k q) :
    resultsOf (List.replicate q.length .pop) s = q.map (fun b => some (.optByte (some b))) := by
  induction q generalizing s with
  | nil => rfl
  | cons v q ih =>
    obtain ⟨t, he, hres, ht⟩ := h.exec_pop_taken
    rw [List.length_cons, List.replicate_succ, resultsOf_cons he, hres, ih ht, List.map_cons]

/-- Settles O30: the round trip fills and drains the queue; the order law is the conservation law from an empty queue. -/
theorem fifoOrderLaw : Obligations.FifoOrderLaw := by
  intro s hok he
  have hs := unitHolds_nil_of_empty hok he
  constructor
  · intro bs hfit
    obtain ⟨t, ht, hpush⟩ := hs.resultsOf_pushes ((Nat.zero_add bs.length).trans_le hfit) (List.replicate bs.length .pop)
    rw [List.nil_append] at ht
    rw [hpush, ht.resultsOf_pops]
  · intro is his
    obtain ⟨t, q, -, -, hlaw⟩ := hs.execAll_conserves his
    exact ⟨q, hlaw.symm⟩

/-- Settles O31: the lengths in the conservation law; `N − 1` pushes fill the queue, and the next one finds it full. -/
theorem countLaw : Obligations.CountLaw := by
  refine ⟨fun s hok => ⟨_, exec_clear s, hok.clear, rfl⟩, fun s hok he => ?_⟩
  have hs := unitHolds_nil_of_empty hok he
  refine ⟨fun is his => ?_, fun bs b hlen => ?_, ?_⟩
  · obtain ⟨t, q, hall, ht, hlaw⟩ := hs.execAll_conserves his
    have hcount := congrArg List.length hlaw
    simp only [List.nil_append, List.length_append] at hcount
    refine ⟨t, hall, ?_⟩
    rw [ht.available_eq]
    exact ⟨by omega, ht.length_le⟩
  · obtain ⟨t, ht, hpush⟩ := hs.resultsOf_pushes ((Nat.zero_add bs.length).trans_le hlen.le) [.push b, .avail]
    have hfull := ht.exec_push_full b hlen
    have havail := (ht.setRes (.bool false)).exec_avail
    rw [hpush, resultsOf_cons hfull, resultsOf_cons havail]
    rfl
  · have havail := (hs.setRes (.optByte none)).exec_avail
    rw [resultsOf_cons hs.exec_pop_empty, resultsOf_cons havail]
    rfl

/-! ### The frame of the commands that store nothing (R125, R126, R130, R151, R156 to R158, R193) -/

/-- What only `PUSH`, `RX_EVENT` and `WRITE_BYTE` write among the commands with a word, and the configuration. -/
def State.storedPart (s : State) :
    Memory × Memory × Memory × List Byte × AppPhase × Option WriteProgress × Params :=
  (s.rx.slots, s.tx.slots, s.unit.slots, s.rxLog, s.appPhase, s.wb, s.params)

theorem storedPart_eq_iff {s t : State} :
    t.storedPart = s.storedPart ↔ t.rx.slots = s.rx.slots ∧ t.tx.slots = s.tx.slots ∧ t.unit.slots = s.unit.slots ∧
      t.rxLog = s.rxLog ∧ t.appPhase = s.appPhase ∧ t.wb = s.wb ∧ t.params = s.params := by
  simp [State.storedPart]

theorem memRead_of_slots_eq {B B' : RingBuffer} (e : B'.slots = B.slots) (a : Nat) : B'.memRead a = B.memRead a :=
  congrArg (Memory.read · a) e

theorem exec_storedPart {i : Instr} {s t : State} (hne : ∀ b, i ≠ .push b ∧ i ≠ .rxEvent b ∧ i ≠ .writeByte b)
    (h : exec i s = .next t) : t.storedPart = s.storedPart := by
  cases i with
  | init sel => obtain ⟨-, rfl⟩ | ⟨-, rfl⟩ := execInit_next h <;> rfl
  | writeByte b => exact absurd rfl (hne b).2.2
  | readByte => obtain ⟨-, rfl⟩ | ⟨-, -, rfl⟩ | ⟨-, -, v, -, rfl⟩ | ⟨-, -, -, rfl⟩ := execReadByte_next h <;> rfl
  | available => obtain ⟨-, rfl⟩ | ⟨-, rfl⟩ := execAvailable_next h <;> rfl
  | flushRx => obtain ⟨-, rfl⟩ | ⟨-, rfl⟩ := execFlushRx_next h <;> rfl
  | rxEvent b => exact absurd rfl (hne b).2.1
  | txReady => obtain ⟨-, rfl⟩ | ⟨-, -, rfl⟩ | ⟨-, -, v, -, B, rfl, rfl⟩ | ⟨-, -, -, rfl⟩ := execTxReady_next h <;> rfl
  | push b => exact absurd rfl (hne b).1
  | pop => obtain ⟨-, rfl⟩ | ⟨-, v, -, rfl⟩ | ⟨-, -, rfl⟩ := execPop_next h <;> rfl
  | avail => obtain rfl := execAvail_next h; rfl
  | clear => obtain rfl := execClear_next h; rfl

/-- A UNIT command writes the unit, `RES` and the fault mark alone. -/
theorem exec_unit_frame {i : Instr} {s t : State} (hp : i.port = .unit) (h : exec i s = .next t) :
    t = { s with unit := t.unit, res := t.res, fault := t.fault } := by
  cases i with
  | push b => obtain ⟨-, rfl⟩ | ⟨-, -, rfl⟩ := execPush_next h <;> rfl
  | pop => obtain ⟨-, rfl⟩ | ⟨-, v, -, rfl⟩ | ⟨-, -, rfl⟩ := execPop_next h <;> rfl
  | avail => obtain rfl := execAvail_next h; rfl
  | clear => obtain rfl := execClear_next h; rfl
  | _ => cases hp

/-- No driver command touches the unit. -/
theorem exec_keeps_unit {i : Instr} {s t : State} (hp : i.port ≠ .unit) (h : exec i s = .next t) : t.unit = s.unit := by
  cases i with
  | init sel => obtain ⟨-, rfl⟩ | ⟨-, rfl⟩ := execInit_next h <;> rfl
  | writeByte b =>
    obtain ⟨-, rfl⟩ | ⟨-, hb⟩ := execWriteByte_next h
    · rfl
    · exact (congrArg State.unit (wbPhase1_frame hb)).symm
  | readByte => obtain ⟨-, rfl⟩ | ⟨-, -, rfl⟩ | ⟨-, -, v, -, rfl⟩ | ⟨-, -, -, rfl⟩ := execReadByte_next h <;> rfl
  | available => obtain ⟨-, rfl⟩ | ⟨-, rfl⟩ := execAvailable_next h <;> rfl
  | flushRx => obtain ⟨-, rfl⟩ | ⟨-, rfl⟩ := execFlushRx_next h <;> rfl
  | rxEvent b => obtain ⟨-, rfl⟩ | ⟨-, -, rfl⟩ | ⟨-, -, -, rfl⟩ := execRxEvent_next h <;> rfl
  | txReady => obtain ⟨-, rfl⟩ | ⟨-, -, rfl⟩ | ⟨-, -, v, -, B, -, rfl⟩ | ⟨-, -, -, rfl⟩ := execTxReady_next h <;> rfl
  | _ => exact absurd rfl hp

/-- Settles O55: each command keeps `storedPart`, and its port says what it does to the unit. -/
theorem otherCommandsStoreNothing : Obligations.OtherCommandsStoreNothing := by
  intro i s t hne h
  obtain ⟨hrx, htx, hunit, hlog, hphase, hwb, hparams⟩ := storedPart_eq_iff.mp (exec_storedPart hne h)
  exact ⟨fun a => ⟨memRead_of_slots_eq hrx a, memRead_of_slots_eq htx a, memRead_of_slots_eq hunit a⟩,
    hlog, hphase, hwb, hparams, fun hp => exec_unit_frame hp h, fun hp => exec_keeps_unit hp h⟩

end Sys2Proof.Machine
end

section
/-! SUPPORT. The application port: the commands before `INIT` (R159), `INIT` (R151, R160), the two phases of `WRITE_BYTE` at either
level (R152 to R154), the loop of `WRITE_BUFFER` (R155), and the inbound commands (R156 to R158); with the statements they settle. -/

namespace Sys2Proof.Machine

/-! ### Completion at either level (R34, R36) -/

section
variable {s : State} (r : Result)

theorem finish_of_blockLevel (hl : s.level ≠ .platform) : s.finish r = s.setRes r := by
  simp [State.finish, State.setRes, hl]

theorem finish_of_platform (hl : s.level = .platform) : s.finish r = { s with res := some r, appPc := s.appPc + 1 } := by
  simp [State.finish, hl]

end

theorem setPhase_self {s : State} {p : AppPhase} (h : s.appPhase = p) : s.setPhase p = s := by
  subst h
  rfl

/-! ### The commands before `INIT`, and `INIT` (R151, R159, R160) -/

theorem exec_before_init {i : Instr} {s : State} (hi : s.initialized = false) (hp : i.port ≠ .unit)
    (hne : ∀ sel, i ≠ .init sel) : exec i s = .next (s.recordFault (.notInitialized (.word (encode i)))) := by
  cases i with
  | init sel => exact absurd rfl (hne sel)
  | writeByte b => exact whenInitialized_false _ hi
  | readByte => exact whenInitialized_false _ hi
  | available => exact whenInitialized_false _ hi
  | flushRx => exact whenInitialized_false _ hi
  | rxEvent b => exact whenInitialized_false _ hi
  | txReady => exact whenInitialized_false _ hi
  | push b => exact absurd rfl hp
  | pop => exact absurd rfl hp
  | avail => exact absurd rfl hp
  | clear => exact absurd rfl hp

/-- Settles O37: each of these commands checks `initialized` before anything else. -/
theorem commandsBeforeInitFault : Obligations.CommandsBeforeInitFault :=
  fun _ hi => ⟨fun _ hp hne => exec_before_init hi hp hne,
    fun bytes => ⟨.writeBuffer bytes, whenInitialized_false _ hi⟩⟩

/-- Settles O36: the two branches of `INIT`, on `initialized`. -/
theorem initConfiguresOnce : Obligations.InitConfiguresOnce :=
  ⟨fun _ _ hi => if_pos hi, fun _ _ hi => if_neg (Bool.eq_false_iff.mp hi)⟩

/-! ### `WRITE_BYTE` (R152 to R154) -/

theorem wbPhase1_of_room_blockLevel {b : Byte} {s : State} (hl : s.level ≠ .platform)
    (hn : inc s.params.kTx s.tx.head ≠ s.tx.tail) (hh : s.tx.head < capacity s.params.kTx) :
    wbPhase1 b s = .next ((s.setTx (s.txPushed b)).setPhase .enablePending).wbPhase2 := by
  simp [wbPhase1, push_of_room b hh hn, hl, State.txPushed, RingBuffer.pushed]

/-- Phase 2 of a `WRITE_BYTE` of its own (R153). -/
theorem wbPhase2_of_no_wb {s : State} (hw : s.wb = none) :
    s.wbPhase2 = ((s.setTxie true).setPhase .idle).finish (.bool true) := by
  rw [wbPhase2_eq]
  exact writeByteReturn_of_no_wb true hw

/-- Phase 2 of a byte of a `WRITE_BUFFER` (R155). -/
theorem wbPhase2_of_wb {s : State} {p : WriteProgress} (hw : s.wb = some p) :
    s.wbPhase2 = ((s.setTxie true).setPhase .idle).setWb (some ⟨p.rest.tail, p.count + 1⟩) := by
  rw [wbPhase2_eq]
  exact writeByteReturn_true_of_wb hw

/-- Settles O38: the two answers of phase 1 at the block level, the second with phase 2 after it. -/
theorem writeByteAtBlockLevel : Obligations.WriteByteAtBlockLevel := by
  intro s b hi hl ⟨hp, hw⟩ hh
  have hinc : inc s.params.kTx s.tx.head = (s.tx.head + 1) % 2 ^ s.params.kTx := inc_eq_mod _ _
  rw [← hinc, exec_writeByte_of_initialized b hi]
  constructor
  · intro hf
    rw [wbPhase1_of_full hf, writeByteReturn_of_no_wb false hw, finish_of_blockLevel _ hl]
    rfl
  · intro hn
    have hphase : ((s.setTx (s.txPushed b)).setTxie true).setPhase .idle = (s.setTx (s.txPushed b)).setTxie true :=
      setPhase_self hp
    calc wbPhase1 b s = .next ((s.setTx (s.txPushed b)).setPhase .enablePending).wbPhase2 :=
          wbPhase1_of_room_blockLevel hl hn hh
      _ = .next ((((s.setTx (s.txPushed b)).setTxie true).setPhase .idle).finish (.bool true)) :=
          congrArg Host.Outcome.next (wbPhase2_of_no_wb hw)
      _ = .next (((s.setTx (s.txPushed b)).setTxie true).finish (.bool true)) := by rw [hphase]
      _ = .next (((s.setTx (s.txPushed b)).setTxie true).setRes (.bool true)) :=
          congrArg Host.Outcome.next (finish_of_blockLevel (.bool true) hl)

/-- Settles O39: the two answers of phase 1 at the platform level. -/
theorem writeBytePhaseOne : Obligations.WriteBytePhaseOne := by
  refine ⟨fun s b hi => exec_before_init hi nofun nofun, fun s b hi hl ⟨_, hw⟩ hh => ?_⟩
  have hinc : inc s.params.kTx s.tx.head = (s.tx.head + 1) % 2 ^ s.params.kTx := inc_eq_mod _ _
  rw [← hinc, exec_writeByte_of_initialized b hi]
  constructor
  · intro hf
    rw [wbPhase1_of_full hf, writeByteReturn_of_no_wb false hw, finish_of_platform _ hl]
  · intro hn
    exact wbPhase1_of_room hl hn hh

theorem appStep_of_pending {s : State} (hp : s.appPhase = .enablePending) : appStep s = .next s.wbPhase2 := by
  simp [appStep, hp]

/-- Settles O40: phase 2 returns `true` to `RES` or to the loop, as `wb` says. -/
theorem writeBytePhaseTwo : Obligations.WriteBytePhaseTwo := by
  intro s hl hp
  rw [appStep_of_pending hp]
  constructor
  · intro hw
    rw [wbPhase2_of_no_wb hw]
    exact congrArg Host.Outcome.next (finish_of_platform (s := (s.setTxie true).setPhase .idle) (.bool true) hl)
  · intro b rest c hw
    rw [wbPhase2_of_wb hw]
    rfl

/-! ### `WRITE_BUFFER` (R155) -/

/-- Settles O42: the end of the list, and the two answers of phase 1 for a byte of the list. -/
theorem writeBufferIterates : Obligations.WriteBufferIterates := by
  intro s hl hp
  have hinc : inc s.params.kTx s.tx.head = (s.tx.head + 1) % 2 ^ s.params.kTx := inc_eq_mod _ _
  rw [← hinc]
  refine ⟨fun c hw => ?_, fun b rest c hw hf => ?_, fun b rest c hw hh hn => ?_⟩
  · calc appStep s = .next ((s.setWb none).finish (.nat c)) := appStep_of_wb hp hw
      _ = _ := congrArg Host.Outcome.next (finish_of_platform (s := s.setWb none) (.nat c) hl)
  · calc appStep s = wbPhase1 b s := appStep_of_wb hp hw
      _ = .next ((s.setWb none).finish (.nat c)) := by rw [wbPhase1_of_full hf, writeByteReturn_false_of_wb hw]
      _ = _ := congrArg Host.Outcome.next (finish_of_platform (s := s.setWb none) (.nat c) hl)
  · calc appStep s = wbPhase1 b s := appStep_of_wb hp hw
      _ = _ := wbPhase1_of_room hl hn hh

/-- How many bytes `tx` can still take (R122). -/
def State.txRoom (s : State) : Nat := capacity s.params.kTx - 1 - s.tx.available s.params.kTx

/-- The state after one byte of a block-level `WRITE_BUFFER` is stored and enabled, with `w` left to do. -/
def State.byteWritten (s : State) (b : Byte) (w : WriteProgress) : State :=
  (((s.setTx (s.txPushed b)).setTxie true).setPhase .idle).setWb (some w)

/-- The state after a block-level `WRITE_BUFFER` has stored `n` more bytes, `tx` being `B`, after a count of `c`. -/
def State.bufferWritten (s : State) (B : RingBuffer) (c n : Nat) : State :=
  ((((s.setTx B).setTxie (s.txie || decide (0 < n))).setPhase .idle).setWb none).finish (.nat (c + n))

theorem bufferWritten_zero {s : State} (hp : s.appPhase = .idle) (c : Nat) :
    s.bufferWritten s.tx c 0 = (s.setWb none).finish (.nat c) := by
  have htxie : (s.txie || decide (0 < 0)) = s.txie := by simp
  rw [State.bufferWritten, htxie]
  exact congrArg (fun u => (u.setWb none).finish (.nat c)) (setPhase_self hp)

theorem bufferWritten_byteWritten (s : State) (b : Byte) (w : WriteProgress) (B : RingBuffer) (c n : Nat) :
    (s.byteWritten b w).bufferWritten B (c + 1) n = s.bufferWritten B c (n + 1) := by
  have htxie : (s.txie || decide (0 < n + 1)) = true := by simp
  rw [State.bufferWritten, State.bufferWritten, htxie, Nat.add_right_comm]
  rfl

section
variable {s : State} (b : Byte) (rest : List Byte) (c : Nat)

theorem writeBufferRun_nil : writeBufferRun [] c s = .next ((s.setWb none).finish (.nat c)) := rfl

theorem writeBufferRun_cons_of_full (hf : inc s.params.kTx s.tx.head = s.tx.tail) :
    writeBufferRun (b :: rest) c s = .next ((s.setWb none).finish (.nat c)) := by
  have hit : writeBufferIterate ⟨b :: rest, c⟩ (s.setWb (some ⟨b :: rest, c⟩)) = .next ((s.setWb none).finish (.nat c)) :=
    wbPhase1_of_full (s := s.setWb (some ⟨b :: rest, c⟩)) hf
  simp [writeBufferRun, hit]

theorem writeBufferRun_cons_of_room (hl : s.level ≠ .platform) (hn : inc s.params.kTx s.tx.head ≠ s.tx.tail)
    (hh : s.tx.head < capacity s.params.kTx) :
    writeBufferRun (b :: rest) c s = writeBufferRun rest (c + 1) (s.byteWritten b ⟨rest, c + 1⟩) := by
  have hit : writeBufferIterate ⟨b :: rest, c⟩ (s.setWb (some ⟨b :: rest, c⟩)) =
      .next (s.byteWritten b ⟨rest, c + 1⟩) :=
    (wbPhase1_of_room_blockLevel (s := s.setWb (some ⟨b :: rest, c⟩)) hl hn hh).trans
      (congrArg Host.Outcome.next (wbPhase2_of_wb (p := ⟨b :: rest, c⟩) rfl))
  simp [writeBufferRun, hit, State.byteWritten]

end

section
variable {s : State} (hB : s.tx.Ok s.params.kTx)
include hB

theorem txRoom_of_full (hf : inc s.params.kTx s.tx.head = s.tx.tail) : s.txRoom = 0 := by
  rw [State.txRoom, hB.full_iff_available.mp hf, Nat.sub_self]

theorem txRoom_of_room (b : Byte) (w : WriteProgress) (hn : inc s.params.kTx s.tx.head ≠ s.tx.tail) :
    s.txRoom = (s.byteWritten b w).txRoom + 1 := by
  have hnew : (s.byteWritten b w).txRoom = capacity s.params.kTx - 1 - (s.tx.available s.params.kTx + 1) :=
    congrArg (capacity s.params.kTx - 1 - ·) (hB.available_pushed hn)
  have hne := mt hB.full_iff_available.mpr hn
  have hlt := available_lt s.params.kTx s.tx
  rw [hnew, State.txRoom]
  omega

end

/-- The loop of R155 at the block level, by induction on the list: it stores as many of the first bytes as `tx` has room for. -/
theorem writeBufferRun_stores (bytes : List Byte) (c : Nat) {s : State} (hl : s.level ≠ .platform)
    (hp : s.appPhase = .idle) (hB : s.tx.Ok s.params.kTx) :
    ∃ B, writeBufferRun bytes c s = .next (s.bufferWritten B c (min bytes.length s.txRoom)) ∧
      B.contents s.params.kTx = s.tx.contents s.params.kTx ++ bytes.take s.txRoom := by
  induction bytes generalizing c s with
  | nil => exact ⟨s.tx, by rw [List.length_nil, Nat.zero_min, bufferWritten_zero hp, writeBufferRun_nil], by simp⟩
  | cons b rest ih =>
    by_cases hf : inc s.params.kTx s.tx.head = s.tx.tail
    · rw [txRoom_of_full hB hf, Nat.min_zero, List.take_zero, List.append_nil]
      exact ⟨s.tx, by rw [writeBufferRun_cons_of_full b rest c hf, bufferWritten_zero hp], rfl⟩
    · obtain ⟨B, hrun, hcontents⟩ := ih (c + 1) (s := s.byteWritten b ⟨rest, c + 1⟩) hl rfl (hB.pushed hf)
      have hcontents : B.contents s.params.kTx =
          (s.tx.pushed s.params.kTx b).contents s.params.kTx ++ rest.take (s.byteWritten b ⟨rest, c + 1⟩).txRoom :=
        hcontents
      refine ⟨B, ?_, ?_⟩
      · rw [writeBufferRun_cons_of_room b rest c hl hf hB.head_lt, hrun, txRoom_of_room hB b ⟨rest, c + 1⟩ hf,
          List.length_cons, Nat.add_min_add_right, bufferWritten_byteWritten]
      · rw [hcontents, hB.contents_pushed hf, txRoom_of_room hB b ⟨rest, c + 1⟩ hf, List.take_succ_cons,
          List.append_assoc, List.singleton_append]

/-- Settles O41: the whole loop, started with a count of 0; the frame is read off the state it ends in. -/
theorem writeBufferCountsWhatFits : Obligations.WriteBufferCountsWhatFits := by
  intro s bytes hi hl ⟨hp, _⟩ hB
  obtain ⟨B, hrun, hcontents⟩ := writeBufferRun_stores bytes 0 hl hp hB
  rw [execWriteBuffer_of_blockLevel bytes hi hl, hrun]
  refine ⟨_, rfl, ?_, hcontents, ⟨rfl, rfl⟩, rfl, rfl, rfl⟩
  rw [State.bufferWritten, finish_res, Nat.zero_add]
  rfl

/-! ### The inbound commands (R156 to R158) -/

section
variable {s : State} (hi : s.initialized = true)
include hi

theorem exec_readByte_of_empty (he : s.rx.head = s.rx.tail) : exec .readByte s = .next (s.finish (.optByte none)) := by
  simp [exec, execReadByte, whenInitialized_true, hi, pop_of_empty he]

theorem exec_readByte_of_written {v : Byte} (ht : s.rx.tail < capacity s.params.kRx) (hn : s.rx.head ≠ s.rx.tail)
    (hv : s.rx.memRead s.rx.tail = some v) :
    exec .readByte s = .next ((s.setRx (s.rx.popped s.params.kRx)).finish (.optByte (some v))) := by
  simp [exec, execReadByte, whenInitialized_true, hi, pop_of_written ht hn hv]

theorem exec_readByte_of_unwritten (ht : s.rx.tail < capacity s.params.kRx) (hn : s.rx.head ≠ s.rx.tail)
    (hv : s.rx.memRead s.rx.tail = none) :
    exec .readByte s = .next (s.recordFault (.unwrittenSlot (.word (encode .readByte)) .rx s.rx.tail)) := by
  simp [exec, execReadByte, whenInitialized_true, hi, pop_of_unwritten ht hn hv, raiseFault_eq]

theorem exec_available : exec .available s = .next (s.finish (.nat (s.rx.available s.params.kRx))) :=
  whenInitialized_true _ hi

theorem exec_flushRx : exec .flushRx s = .next ((s.setRx s.rx.clear).finish .unit) := whenInitialized_true _ hi

end

/-- Settles O44: the three answers of `pop` with the tail in range, after the check of `initialized`. -/
theorem readByteTakesTheOldest : Obligations.ReadByteTakesTheOldest := by
  refine ⟨fun s hi => exec_before_init hi nofun nofun, fun s hi ht => ?_⟩
  have hinc : inc s.params.kRx s.rx.tail = (s.rx.tail + 1) % 2 ^ s.params.kRx := inc_eq_mod _ _
  rw [← hinc]
  exact ⟨fun he => exec_readByte_of_empty hi he, fun _ hn hv => exec_readByte_of_written hi ht hn hv,
    fun hn hv => exec_readByte_of_unwritten hi ht hn hv⟩

/-- Settles O45: `available` is `dist`, which is the difference modulo `N`. -/
theorem availableCountsInbound : Obligations.AvailableCountsInbound := by
  intro s hi
  have hcount : s.rx.available s.params.kRx = (s.rx.head + 2 ^ s.params.kRx - s.rx.tail) % 2 ^ s.params.kRx :=
    dist_eq_mod _ _ _
  rw [← hcount]
  exact exec_available hi

/-- Settles O46: the fault before `INIT`, and the one answer after it. -/
theorem flushRxClearsInbound : Obligations.FlushRxClearsInbound :=
  ⟨fun _ hi => exec_before_init hi nofun nofun, fun _ hi => exec_flushRx hi⟩

end Sys2Proof.Machine
end

section
/-! SUPPORT. The interrupt port: the answers of `RX_EVENT` (R191, R192) and of `TX_READY` (R193, R195, R197), which fields a
handler reads and writes (R196), the moves of `TXIE` (R194, R199), and the outbound byte stream over a step (R198); with the
statements they settle. -/

namespace Sys2Proof.Machine

/-! ### The answers of `RX_EVENT` (R191, R192) -/

section
variable {s : State} (hi : s.initialized = true) (b : Byte)
include hi

theorem exec_rxEvent_of_full (hf : inc s.params.kRx s.rx.head = s.rx.tail) :
    exec (.rxEvent b) s = .next (s.logRx b) := by
  simp [exec, execRxEvent, whenInitialized_true, hi, push_of_full _ hf, readRxRegister]

theorem exec_rxEvent_of_room (hh : s.rx.head < capacity s.params.kRx) (hn : inc s.params.kRx s.rx.head ≠ s.rx.tail) :
    exec (.rxEvent b) s = .next ((s.logRx b).setRx (s.rx.pushed s.params.kRx b)) := by
  simp [exec, execRxEvent, whenInitialized_true, hi, push_of_room _ hh hn, readRxRegister]

end

/-- Settles O47: the fault before `INIT`, and the two answers of `push` with the head in range. -/
theorem rxEventStoresTheByte : Obligations.RxEventStoresTheByte := by
  refine ⟨fun s b hi => exec_before_init hi nofun nofun, fun s b hi hh => ?_⟩
  have hinc : inc s.params.kRx s.rx.head = (s.rx.head + 1) % 2 ^ s.params.kRx := inc_eq_mod _ _
  rw [← hinc]
  exact ⟨exec_rxEvent_of_full hi b, exec_rxEvent_of_room hi b hh⟩

/-- On a non-empty well-formed inbound buffer, `READ_BYTE` returns the oldest byte and leaves the rest (R156). -/
theorem exec_readByte_takes_first {s : State} (hi : s.initialized = true) (hB : s.rx.Ok s.params.kRx)
    (hn : s.rx.head ≠ s.rx.tail) :
    ∃ v rest, s.rx.contents s.params.kRx = v :: rest ∧
      ∃ t, exec .readByte s = .next t ∧ t.res = some (.optByte (some v)) ∧ t.rx.contents s.params.kRx = rest := by
  obtain ⟨v, hv⟩ := Option.isSome_iff_exists.mp (hB.memRead_tail_isSome hn)
  exact ⟨v, _, hB.contents_popped hn hv, _, exec_readByte_of_written hi hB.tail_lt hn hv, rfl, rfl⟩

/-- Settles O48: `N − 1` bytes held is full, so `RX_EVENT` only logs; full is not empty, so the oldest byte is there to read. -/
theorem rxOverflowIsSilent : Obligations.RxOverflowIsSilent := by
  intro s b hi hB hk hheld
  have hfull : inc s.params.kRx s.rx.head = s.rx.tail := hB.full_iff_available.mpr hheld
  have hpow : 2 ^ 1 ≤ 2 ^ s.params.kRx := Nat.pow_le_pow_right (by decide) hk
  have hn : s.rx.head ≠ s.rx.tail := mt hB.available_zero_iff.mpr (by omega)
  exact ⟨exec_rxEvent_of_full hi b hfull, exec_readByte_takes_first (s := s.logRx b) hi hB hn⟩

/-! ### The answers of `TX_READY` (R193, R195, R197) -/

section
variable {s : State} (hi : s.initialized = true)
include hi

theorem exec_txReady_of_empty (he : s.tx.head = s.tx.tail) : exec .txReady s = .next (s.setTxie false) := by
  simp [exec, execTxReady, whenInitialized_true, hi, pop_of_empty he]

theorem exec_txReady_of_written {v : Byte} (ht : s.tx.tail < capacity s.params.kTx) (hn : s.tx.head ≠ s.tx.tail)
    (hv : s.tx.memRead s.tx.tail = some v) :
    exec .txReady s = .next ((s.setTx (s.tx.popped s.params.kTx)).writeTxRegister v).disableIfEmpty := by
  simp [exec, execTxReady, whenInitialized_true, hi, pop_of_written ht hn hv]

theorem exec_txReady_of_unwritten (ht : s.tx.tail < capacity s.params.kTx) (hn : s.tx.head ≠ s.tx.tail)
    (hv : s.tx.memRead s.tx.tail = none) :
    exec .txReady s = .next (s.recordFault (.unwrittenSlot (.word (encode .txReady)) .tx s.tx.tail)) := by
  simp [exec, execTxReady, whenInitialized_true, hi, pop_of_unwritten ht hn hv, raiseFault_eq]

end

theorem disableIfEmpty_eq_ite (s : State) :
    s.disableIfEmpty = s.setTxie (if s.tx.head = s.tx.tail then false else s.txie) := by
  rw [disableIfEmpty_eq, RingBuffer.empty]
  split <;> simp [*]

/-- Settles O49: the fault before `INIT`, and the three answers of `pop` with the tail in range. -/
theorem txReadyDrainsOrDisables : Obligations.TxReadyDrainsOrDisables := by
  refine ⟨fun s hi => exec_before_init hi nofun nofun, fun s hi ht => ?_⟩
  have hinc : inc s.params.kTx s.tx.tail = (s.tx.tail + 1) % 2 ^ s.params.kTx := inc_eq_mod _ _
  rw [← hinc]
  refine ⟨exec_txReady_of_empty hi, fun v hn hv => ?_, exec_txReady_of_unwritten hi ht⟩
  rw [exec_txReady_of_written hi ht hn hv, disableIfEmpty_eq_ite]
  rfl

/-- Settles O50: `TX_READY` disables on an empty buffer and after taking the last byte, and else leaves it non-empty. -/
theorem emptyingDisablesTransmit : Obligations.EmptyingDisablesTransmit := by
  intro s t hi h he
  obtain ⟨hn, -⟩ | ⟨-, -, rfl⟩ | ⟨-, -, v, -, B, -, rfl⟩ | ⟨-, hn, -, rfl⟩ := execTxReady_next h
  · simp [hi] at hn
  · rfl
  · have hB : B.empty = true := he
    simp [hB]
  · exact absurd ((empty_iff s.tx).mp he) hn

/-- Settles O51: an empty buffer ends the level by `TXIE`, a byte that is taken ends it by the transmit register. -/
theorem txReadyEndsTheLevel : Obligations.TxReadyEndsTheLevel := by
  intro s hi hB
  by_cases he : s.tx.head = s.tx.tail
  · exact ⟨_, exec_txReady_of_empty hi he, rfl, .inl ⟨rfl, rfl⟩⟩
  · obtain ⟨v, hv⟩ := Option.isSome_iff_exists.mp (hB.memRead_tail_isSome he)
    refine ⟨_, exec_txReady_of_written hi hB.tail_lt he hv, ?_⟩
    rw [disableIfEmpty_eq]
    exact ⟨Bool.and_false _, .inr ⟨v, rfl, rfl⟩⟩

/-! ### The handler's fields (R196) -/

section
variable (s u : State)

@[simp] theorem withAppFieldsOf_params : (s.withAppFieldsOf u).params = s.params := rfl
@[simp] theorem withAppFieldsOf_rx : (s.withAppFieldsOf u).rx = s.rx := rfl
@[simp] theorem withAppFieldsOf_tx : (s.withAppFieldsOf u).tx = s.tx := rfl

/-- The check of `initialized` reads none of the application's fields. -/
theorem whenInitialized_withAppFieldsOf (c : Command) {go go' : Host.Outcome State Fault Refusal}
    (hgo : go' = mapNext (·.withAppFieldsOf u) go) :
    whenInitialized c (s.withAppFieldsOf u) go' = mapNext (·.withAppFieldsOf u) (whenInitialized c s go) := by
  by_cases hi : s.initialized = true
  · rw [whenInitialized_true go hi, whenInitialized_true (s := s.withAppFieldsOf u) go' hi, hgo]
  · have hi := Bool.eq_false_of_not_eq_true hi
    rw [whenInitialized_false go hi, whenInitialized_false (s := s.withAppFieldsOf u) go' hi]
    rfl

theorem disableIfEmpty_withAppFieldsOf : (s.withAppFieldsOf u).disableIfEmpty = s.disableIfEmpty.withAppFieldsOf u := by
  simp only [disableIfEmpty_eq]
  rfl

theorem execRxEvent_withAppFieldsOf (b : Byte) :
    execRxEvent b (s.withAppFieldsOf u) = mapNext (·.withAppFieldsOf u) (execRxEvent b s) := by
  refine whenInitialized_withAppFieldsOf s u _ ?_
  rw [withAppFieldsOf_rx, withAppFieldsOf_params]
  cases s.rx.push s.params.kRx (readRxRegister b) <;> rfl

theorem execTxReady_withAppFieldsOf :
    execTxReady (s.withAppFieldsOf u) = mapNext (·.withAppFieldsOf u) (execTxReady s) := by
  refine whenInitialized_withAppFieldsOf s u _ ?_
  rw [withAppFieldsOf_tx, withAppFieldsOf_params]
  cases s.tx.pop s.params.kTx with
  | taken v B =>
    exact congrArg Host.Outcome.next (disableIfEmpty_withAppFieldsOf ((s.setTx B).writeTxRegister v) u)
  | _ => rfl

end

/-- The fields that an IRQ command may write (R196). -/
theorem exec_irq_frame {i : Instr} {s t : State} (hp : i.port = .irq) (h : exec i s = .next t) :
    t = { s with
      rx := t.rx, tx := t.tx, txie := t.txie, txRegEmpty := t.txRegEmpty, txOut := t.txOut, rxLog := t.rxLog,
      fault := t.fault } := by
  cases i with
  | rxEvent b => obtain ⟨-, rfl⟩ | ⟨-, -, rfl⟩ | ⟨-, -, -, rfl⟩ := execRxEvent_next h <;> rfl
  | txReady => obtain ⟨-, rfl⟩ | ⟨-, -, rfl⟩ | ⟨-, -, v, -, B, -, rfl⟩ | ⟨-, -, -, rfl⟩ := execTxReady_next h <;> rfl
  | _ => cases hp

/-- Settles O52: both handlers commute with a change of the application's fields, and keep `appSide` in their frame. -/
theorem handlerKeepsItsRoles : Obligations.HandlerKeepsItsRoles := by
  intro i hp s u
  constructor
  · cases i with
    | rxEvent b => exact execRxEvent_withAppFieldsOf s u b
    | txReady => exact execTxReady_withAppFieldsOf s u
    | _ => cases hp
  · intro t h
    obtain ⟨hsame, htxie⟩ := exec_irq_appSide hp h
    obtain ⟨hhead, hslots, htail⟩ := appSide_eq_iff.mp hsame
    exact ⟨exec_irq_frame hp h, htail, hhead, hslots, htxie⟩

/-! ### The moves of `TXIE` (R194) -/

theorem exec_keeps_txie {i : Instr} {s t : State} (h : exec i s = .next t) (hinit : ∀ sel, i ≠ .init sel)
    (hwrite : ∀ b, i ≠ .writeByte b) (hready : i ≠ .txReady) : t.txie = s.txie := by
  cases i with
  | init sel => exact absurd rfl (hinit sel)
  | writeByte b => exact absurd rfl (hwrite b)
  | readByte => obtain ⟨-, rfl⟩ | ⟨-, -, rfl⟩ | ⟨-, -, v, -, rfl⟩ | ⟨-, -, -, rfl⟩ := execReadByte_next h <;> rfl
  | available => obtain ⟨-, rfl⟩ | ⟨-, rfl⟩ := execAvailable_next h <;> rfl
  | flushRx => obtain ⟨-, rfl⟩ | ⟨-, rfl⟩ := execFlushRx_next h <;> rfl
  | rxEvent b => obtain ⟨-, rfl⟩ | ⟨-, -, rfl⟩ | ⟨-, -, -, rfl⟩ := execRxEvent_next h <;> rfl
  | txReady => exact absurd rfl hready
  | _ => rw [exec_unit_frame rfl h]

/-- `INIT` never raises `TXIE` (R151). -/
theorem execInit_txie {sel : BitVec 4} {s t : State} (h : execInit sel s = .next t) : t.txie = s.txie ∨ t.txie = false := by
  obtain ⟨-, rfl⟩ | ⟨-, rfl⟩ := execInit_next h
  · exact .inl rfl
  · exact .inr rfl

/-- `WRITE_BYTE` leaves `TXIE` or, with room in `tx`, sets it (R152, R153). -/
theorem execWriteByte_txie {b : Byte} {s t : State} (h : execWriteByte b s = .next t) :
    t.txie = s.txie ∨ s.tx.full s.params.kTx = false ∧ t.txie = true := by
  obtain ⟨-, rfl⟩ | ⟨-, hb⟩ := execWriteByte_next h
  · exact .inl rfl
  · obtain ⟨-, w, v, pc, rfl⟩ | ⟨-, -, rfl⟩ | ⟨hn, -, w, v, pc, rfl⟩ := wbPhase1_update hb
    · exact .inl rfl
    · exact .inl rfl
    · exact .inr ⟨decide_eq_false hn, rfl⟩

/-- `TX_READY` leaves `TXIE` or, with `tx` empty at its end, clears it (R193, R195). -/
theorem execTxReady_txie {s t : State} (h : execTxReady s = .next t) :
    t.txie = s.txie ∨ t.tx.empty = true ∧ t.txie = false := by
  obtain ⟨-, rfl⟩ | ⟨-, he, rfl⟩ | ⟨-, -, v, -, B, -, rfl⟩ | ⟨-, -, -, rfl⟩ := execTxReady_next h
  · exact .inl rfl
  · exact .inr ⟨(empty_iff s.tx).mpr he, rfl⟩
  · cases hB : B.empty with
    | true => exact .inr ⟨hB, Bool.and_false _⟩
    | false => exact .inl (Bool.and_true _)
  · exact .inl rfl

/-- Settles O53: `INIT`, `WRITE_BYTE` and `TX_READY` each move `TXIE` one way at most, and no other command moves it. -/
theorem transmitFlagMoves : Obligations.TransmitFlagMoves := by
  intro i s t h
  cases i with
  | init sel =>
    have hmove := execInit_txie h
    exact ⟨fun hs ht => by simp [hs, ht] at hmove, fun _ _ => .inl ⟨sel, rfl⟩⟩
  | writeByte b =>
    have hmove := execWriteByte_txie h
    exact ⟨fun hs ht => ⟨b, rfl, by simpa [hs, ht] using hmove⟩, fun hs ht => by simp [hs, ht] at hmove⟩
  | txReady =>
    have hmove := execTxReady_txie h
    exact ⟨fun hs ht => by simp [hs, ht] at hmove, fun hs ht => .inr ⟨rfl, by simpa [hs, ht] using hmove⟩⟩
  | _ =>
    have hkept := exec_keeps_txie h nofun nofun nofun
    exact ⟨fun hs ht => by simp [hs, ht] at hkept, fun hs ht => by simp [hs, ht] at hkept⟩

/-! ### No missed wakeup (R199) -/

theorem wbPhase2_noStranded (s : State) : s.wbPhase2.NoStranded := by
  obtain ⟨w, v, pc, e⟩ := wbPhase2_update s
  rw [e]
  exact fun _ _ _ => rfl

/-- A byte that is stored is enabled in the same step or leaves phase 2 outstanding. -/
theorem wbPhase1_noStranded {b : Byte} {s t : State} (hs : s.NoStranded) (h : wbPhase1 b s = .next t) : t.NoStranded := by
  obtain ⟨-, w, v, pc, rfl⟩ | ⟨-, -, rfl⟩ | ⟨-, -, w, v, pc, rfl⟩ := wbPhase1_update h
  · exact hs
  · exact fun _ hp _ => nomatch hp
  · exact fun _ _ _ => rfl

theorem writeBufferIterate_noStranded {p : WriteProgress} {s t : State} (hs : s.NoStranded)
    (h : writeBufferIterate p s = .next t) : t.NoStranded := by
  obtain ⟨-, rfl⟩ | ⟨b, rest, -, hb⟩ := writeBufferIterate_next h
  · exact hs
  · exact wbPhase1_noStranded hs hb

theorem execWriteBuffer_noStranded {bytes : List Byte} {s t : State} (hs : s.NoStranded)
    (h : execWriteBuffer bytes s = .next t) : t.NoStranded := by
  obtain ⟨-, rfl⟩ | ⟨-, -, hit⟩ | ⟨-, -, hr⟩ := execWriteBuffer_next h
  · exact hs
  · exact writeBufferIterate_noStranded (s := s.setWb (some ⟨bytes, 0⟩)) hs hit
  · exact writeBufferRun_keeps State.NoStranded (fun _ _ hu => hu)
      (fun _ _ _ hu _ hit => writeBufferIterate_noStranded hu hit) bytes 0 s t hs hr

/-- `TX_READY` clears `TXIE` on an empty buffer only (R193, R195). -/
theorem execTxReady_noStranded {s t : State} (hs : s.NoStranded) (h : execTxReady s = .next t) : t.NoStranded := by
  obtain ⟨-, rfl⟩ | ⟨-, he, rfl⟩ | ⟨hi, hn, v, -, B, -, rfl⟩ | ⟨-, -, -, rfl⟩ := execTxReady_next h
  · exact hs
  · exact fun _ _ hne => absurd ((empty_iff s.tx).mpr he) (Bool.eq_false_iff.mp hne)
  · intro _ hp (hne : B.empty = false)
    have hset : s.txie = true := hs hi hp (empty_eq_false hn)
    simp [hset, hne]
  · exact hs

theorem exec_noStranded {i : Instr} {s t : State} (hs : s.NoStranded) (h : exec i s = .next t) : t.NoStranded := by
  cases i with
  | init sel =>
    obtain ⟨-, rfl⟩ | ⟨-, rfl⟩ := execInit_next h
    · exact hs
    · exact fun _ _ hne => nomatch hne
  | writeByte b =>
    obtain ⟨-, rfl⟩ | ⟨-, hb⟩ := execWriteByte_next h
    · exact hs
    · exact wbPhase1_noStranded hs hb
  | readByte => obtain ⟨-, rfl⟩ | ⟨-, -, rfl⟩ | ⟨-, -, v, -, rfl⟩ | ⟨-, -, -, rfl⟩ := execReadByte_next h <;> exact hs
  | available => obtain ⟨-, rfl⟩ | ⟨-, rfl⟩ := execAvailable_next h <;> exact hs
  | flushRx => obtain ⟨-, rfl⟩ | ⟨-, rfl⟩ := execFlushRx_next h <;> exact hs
  | rxEvent b => obtain ⟨-, rfl⟩ | ⟨-, -, rfl⟩ | ⟨-, -, -, rfl⟩ := execRxEvent_next h <;> exact hs
  | txReady => exact execTxReady_noStranded hs h
  | _ =>
    rw [exec_unit_frame rfl h]
    exact hs

theorem noStranded_kept : KeptByParts State.NoStranded where
  refusal _ _ hs := hs
  queue _ _ hs := hs
  choice _ hs := hs
  txDone _ hs := hs
  exec _ _ _ hs _ _ h := exec_noStranded hs h
  writeBuffer _ _ _ hs _ h := execWriteBuffer_noStranded hs h
  iterate _ _ _ hs _ _ h := writeBufferIterate_noStranded hs h
  phase2 s _ _ := wbPhase2_noStranded s

/-- Settles O19: reset is not initialised, and every part of a step keeps the property. -/
theorem noMissedWakeup : Obligations.NoMissedWakeup :=
  ⟨fun hi => (nomatch hi), fun _ _ hs h => noStranded_kept.step hs h⟩

/-! ### The outbound byte stream (R74, R128, R198) -/

section
variable {s t : State} (hB : s.tx.Ok s.params.kTx)
include hB

/-- A handler moves the oldest waiting byte to the end of `txOut`, or neither (R193). -/
theorem exec_irq_txStream {i : Instr} (hp : i.port = .irq) (h : exec i s = .next t) : t.txStream = s.txStream := by
  cases i with
  | rxEvent b => obtain ⟨-, rfl⟩ | ⟨-, -, rfl⟩ | ⟨-, -, -, rfl⟩ := execRxEvent_next h <;> rfl
  | txReady =>
    obtain ⟨-, rfl⟩ | ⟨-, -, rfl⟩ | ⟨-, hn, v, hv, B, rfl, rfl⟩ | ⟨-, -, -, rfl⟩ := execTxReady_next h
    · rfl
    · rfl
    · calc (s.txOut ++ [v]) ++ (s.tx.popped s.params.kTx).contents s.params.kTx
          = s.txOut ++ v :: (s.tx.popped s.params.kTx).contents s.params.kTx := List.append_cons .. |>.symm
        _ = s.txStream := by rw [← hB.contents_popped hn hv, State.txStream]
    · rfl
  | _ => cases hp

theorem runMove_txStream {m : Move} (hm : m ≠ .app) (h : runMove m s = .next t) : t.txStream = s.txStream := by
  cases m with
  | app => exact absurd rfl hm
  | rxEvent b => exact exec_irq_txStream hB (i := .rxEvent b) rfl h
  | txReady => exact exec_irq_txStream hB (i := .txReady) rfl h
  | txDone => cases h; rfl

/-- At the platform level `APP` alone adds to the stream. -/
theorem step_txStream_of_ne_app (hl : s.level = .platform) (hm : s.nextMove ≠ .app) (h : step s = .next t) :
    t.txStream = s.txStream := by
  obtain ⟨-, -, ⟨-, rfl⟩ | ⟨-, -, hp⟩ | ⟨-, hn, -⟩⟩ := step_next h
  · rfl
  · obtain ⟨-, hrun⟩ | ⟨-, rfl⟩ := platformStep_next hp
    · exact runMove_txStream (s := s.takeMove) hB hm hrun
    · rfl
  · exact absurd hl hn

theorem txStream_prefix_of_pushed (b : Byte) (hn : inc s.params.kTx s.tx.head ≠ s.tx.tail) :
    s.txStream <+: s.txOut ++ (s.tx.pushed s.params.kTx b).contents s.params.kTx := by
  rw [hB.contents_pushed hn, ← List.append_assoc]
  exact List.prefix_append _ _

theorem wbPhase1_txStream {b : Byte} (h : wbPhase1 b s = .next t) : s.txStream <+: t.txStream := by
  obtain ⟨-, w, v, pc, rfl⟩ | ⟨hn, -, rfl⟩ | ⟨hn, -, w, v, pc, rfl⟩ := wbPhase1_update h
  · exact List.prefix_rfl
  · exact txStream_prefix_of_pushed hB b hn
  · exact txStream_prefix_of_pushed hB b hn

theorem writeBufferIterate_txStream {p : WriteProgress} (h : writeBufferIterate p s = .next t) :
    s.txStream <+: t.txStream := by
  obtain ⟨-, rfl⟩ | ⟨b, rest, -, hb⟩ := writeBufferIterate_next h
  · exact List.prefix_rfl
  · exact wbPhase1_txStream hB hb

theorem exec_txStream {i : Instr} (hi : s.initialized = true) (h : exec i s = .next t) : s.txStream <+: t.txStream := by
  cases i with
  | init sel =>
    obtain ⟨-, rfl⟩ | ⟨hn, -⟩ := execInit_next h
    · exact List.prefix_rfl
    · simp [hi] at hn
  | writeByte b =>
    obtain ⟨-, rfl⟩ | ⟨-, hb⟩ := execWriteByte_next h
    · exact List.prefix_rfl
    · exact wbPhase1_txStream hB hb
  | readByte =>
    obtain ⟨-, rfl⟩ | ⟨-, -, rfl⟩ | ⟨-, -, v, -, rfl⟩ | ⟨-, -, -, rfl⟩ := execReadByte_next h <;> exact List.prefix_rfl
  | available => obtain ⟨-, rfl⟩ | ⟨-, rfl⟩ := execAvailable_next h <;> exact List.prefix_rfl
  | flushRx => obtain ⟨-, rfl⟩ | ⟨-, rfl⟩ := execFlushRx_next h <;> exact List.prefix_rfl
  | rxEvent b => exact (exec_irq_txStream hB rfl h).symm ▸ List.prefix_rfl
  | txReady => exact (exec_irq_txStream hB rfl h).symm ▸ List.prefix_rfl
  | _ =>
    rw [exec_unit_frame rfl h]
    exact List.prefix_rfl

end

theorem wbPhase2_txStream (s : State) : s.wbPhase2.txStream = s.txStream := by
  obtain ⟨w, v, pc, e⟩ := wbPhase2_update s
  rw [e]
  rfl

/-- The loop of R155 adds byte after byte: the invariant between two bytes gives each one a well-formed `tx`. -/
theorem execWriteBuffer_txStream {bytes : List Byte} {s t : State} (hs : s.Inv) (hidle : s.appPhase = .idle)
    (h : execWriteBuffer bytes s = .next t) : s.txStream <+: t.txStream := by
  obtain ⟨-, rfl⟩ | ⟨-, -, hit⟩ | ⟨hi, hl, hr⟩ := execWriteBuffer_next h
  · exact List.prefix_rfl
  · exact writeBufferIterate_txStream (s := s.setWb (some ⟨bytes, 0⟩)) hs.tx_ok hit
  · have hkept : t.BetweenBytes ∧ s.txStream <+: t.txStream :=
      writeBufferRun_keeps (fun u => u.BetweenBytes ∧ s.txStream <+: u.txStream)
        (fun _ w hu => ⟨setWb_betweenBytes w hu.1, hu.2⟩)
        (fun _ _ _ ⟨hu, hpre⟩ hw hit =>
          ⟨writeBufferIterate_betweenBytes hu hw hit, hpre.trans (writeBufferIterate_txStream hu.inv.tx_ok hit)⟩)
        bytes 0 s t ⟨⟨hs, hi, hidle, hl⟩, List.prefix_rfl⟩ hr
    exact hkept.2

/-- `u` meets the invariant after `INIT`, and its outbound stream goes on from that of `s`. -/
structure State.StreamContinues (s u : State) : Prop where
  inv : u.Inv
  initialized : u.initialized = true
  grows : s.txStream <+: u.txStream

/-- A part of a step that keeps the invariant and what `INIT` sets needs only its own growth. -/
theorem State.StreamContinues.of_part {s u t : State} (hu : s.StreamContinues u) (hinv : t.Inv)
    (hc : t.configPart = u.configPart) (hgrows : u.txStream <+: t.txStream) : s.StreamContinues t :=
  ⟨hinv, (initialized_of_configPart hc).trans hu.initialized, hu.grows.trans hgrows⟩

theorem streamContinues_kept (s : State) : KeptByParts s.StreamContinues where
  refusal u r hu := hu.of_part (inv_kept.refusal u r hu.inv) rfl List.prefix_rfl
  queue u cs hu := hu.of_part (inv_kept.queue u cs hu.inv) rfl List.prefix_rfl
  choice u hu := hu.of_part (inv_kept.choice u hu.inv) rfl List.prefix_rfl
  txDone u hu := hu.of_part (inv_kept.txDone u hu.inv) rfl List.prefix_rfl
  exec _ _ _ hu hwf hidle h :=
    hu.of_part (exec_inv hu.inv hwf hidle h) (exec_configPart hu.initialized h)
      (exec_txStream hu.inv.tx_ok hu.initialized h)
  writeBuffer _ _ _ hu hidle h :=
    hu.of_part (execWriteBuffer_inv hu.inv hidle.1 h) (configPart_of_write (execWriteBuffer_frame hu.initialized h))
      (execWriteBuffer_txStream hu.inv hidle.1 h)
  iterate _ _ _ hu hidle hw h :=
    hu.of_part (writeBufferIterate_inv hu.inv hidle hw h) (configPart_of_write (writeBufferIterate_frame h))
      (writeBufferIterate_txStream hu.inv.tx_ok h)
  phase2 u hu _ :=
    hu.of_part (wbPhase2_inv hu.inv hu.initialized) (configPart_of_write (wbPhase2_frame u))
      ((wbPhase2_txStream u).symm ▸ List.prefix_rfl)

/-- Settles O20: every part of a step lets the stream grow at its end, and a handler or the environment leaves it. -/
theorem outboundStreamOnlyGrows : Obligations.OutboundStreamOnlyGrows := by
  intro s t hs hi h
  have hkept : s.StreamContinues t := (streamContinues_kept s).step ⟨hs, hi, List.prefix_rfl⟩ h
  exact ⟨hkept.grows, fun hl hm => step_txStream_of_ne_app hs.tx_ok hl hm h⟩

end Sys2Proof.Machine
end

section
/-! SUPPORT. The platform's boundary: which choices are enabled (R228, R229, R233, R242), what a taken or a passed-over choice does
(R234, R235), when a run is complete (R243), and what a liberty of the environment leaves as it was (R240); with the statements
they settle. -/

namespace Sys2Proof.Machine

/-! ### Which choices are enabled (R228, R229, R233, R242) -/

theorem not_marked_iff (s : State) : ¬ s.marked ↔ s.fault = none ∧ s.refused = none := by
  simp [State.marked]

theorem enabled_rxEvent_iff (s : State) (b : Byte) : s.enabled (.rxEvent b) = true ↔
    s.initialized = true ∧ s.rxie = true ∧ s.fault = none ∧ s.refused = none := by
  simp [State.enabled, State.rxGate, and_assoc]

theorem enabled_txReady_iff (s : State) : s.enabled .txReady = true ↔
    s.initialized = true ∧ s.txie = true ∧ s.txRegEmpty = true ∧ s.fault = none ∧ s.refused = none := by
  simp [State.enabled, State.txGate, State.txRequest, and_assoc]

theorem enabled_txDone_iff (s : State) : s.enabled .txDone = true ↔
    s.txRegEmpty = false ∧ s.fault = none ∧ s.refused = none := by
  simp [State.enabled, and_assoc]

/-- `APP` has a step while a command is in progress or one is left to issue (R242). -/
theorem enabled_app_iff (s : State) : s.enabled .app = true ↔
    s.fault = none ∧ s.refused = none ∧ (¬ s.appIdle ∨ s.appPc < s.program.length) := by
  simp [State.enabled, State.appEnabled, State.appIdle, Option.isSome_iff_ne_none, imp_iff_not_or, and_assoc]

/-- Settles O9: the receive gate is the conjunction of the four conditions. -/
theorem receiveGateOpens : Obligations.ReceiveGateOpens := enabled_rxEvent_iff

/-- Settles O10: the transmit gate is the conjunction of the five conditions. -/
theorem transmitGateOpens : Obligations.TransmitGateOpens := enabled_txReady_iff

/-- Settles O11: with no mark set the condition left of `TX_DONE` is the busy register, and its one write is `txRegEmpty`. -/
theorem txDoneEmptiesTheRegister : Obligations.TxDoneEmptiesTheRegister :=
  ⟨fun s hf hr => (enabled_txDone_iff s).trans (and_iff_left ⟨hf, hr⟩), fun _ => rfl⟩

/-! ### The step at a boundary (R222, R234, R235) -/

/-- In a live platform state a choice that is not enabled is passed over (log entry 5). -/
theorem step_eq_takeMove {s : State} (hs : s.live) (hl : s.level = .platform) (he : s.enabled s.nextMove = false) :
    step s = .next s.takeMove := by
  obtain ⟨hf, hr, hw⟩ := hs
  rw [step, running_live _ hf hr hw]
  simp [levelStep, hl, platformStep, he]

/-- Settles O12: `step` is `runMove` of an enabled choice, and `takeMove` under a disabled one. -/
theorem chosenStepIsTaken : Obligations.ChosenStepIsTaken := by
  rintro s u hs hl rfl
  have hrun : ∀ m, s.nextMove = m → s.enabled m = true → step s = runMove m s.takeMove := by
    rintro m rfl he
    exact step_eq_runMove hs hl he
  exact ⟨fun b => hrun (.rxEvent b), hrun .txReady, hrun .txDone, hrun .app, step_eq_takeMove hs hl⟩

/-! ### A complete state has no mark and no duty step left (R222, R243) -/

theorem complete_iff (s : State) : s.complete = true ↔
    s.appPc = s.program.length ∧ s.appIdle ∧ ¬ s.marked ∧ s.tx.empty = true ∧ s.txie = false ∧ s.txRegEmpty = true := by
  simp [State.complete, State.appIdle, not_marked_iff, and_assoc]

/-- Settles O13: a marked state answers no next state, and completeness asks for no mark. -/
theorem markedStateIsStuck : Obligations.MarkedStateIsStuck := by
  intro s hm
  refine ⟨fun _ => not_next_of_marked hm, Bool.eq_false_iff.mpr fun hc => ?_⟩
  obtain ⟨-, -, hn, -⟩ := (complete_iff s).mp hc
  exact hn hm

/-- In a complete state every duty is disabled. -/
theorem not_enabled_of_complete {s : State} {m : Move} (hc : s.complete = true) (hm : Move.isDuty m = true) :
    s.enabled m = false := by
  obtain ⟨hpc, hidle, -, -, htxie, hreg⟩ := (complete_iff s).mp hc
  refine Bool.eq_false_iff.mpr fun he => ?_
  cases m with
  | app =>
    obtain ⟨-, -, hbusy | hlt⟩ := (enabled_app_iff s).mp he
    · exact hbusy hidle
    · omega
  | rxEvent b => cases hm
  | txReady =>
    obtain ⟨-, hset, -⟩ := (enabled_txReady_iff s).mp he
    simp [htxie] at hset
  | txDone =>
    obtain ⟨hbusy, -⟩ := (enabled_txDone_iff s).mp he
    simp [hreg] at hbusy

/-- An unmarked state in which no duty is enabled is complete, if no byte waits in `tx` without the transmit interrupt and the
interrupt is enabled only after `INIT`. -/
theorem complete_of_no_duty {s : State} (hu : ¬ s.marked) (hpc : s.appPc ≤ s.program.length)
    (htx : s.appIdle → s.tx.empty = false → s.txie = true) (hinit : s.txie = true → s.initialized = true)
    (happ : s.enabled .app = false) (hready : s.enabled .txReady = false) (hdone : s.enabled .txDone = false) :
    s.complete = true := by
  obtain ⟨hf, hr⟩ := (not_marked_iff s).mp hu
  obtain ⟨hbusy, hge⟩ := not_or.mp fun hleft =>
    Bool.eq_false_iff.mp happ ((enabled_app_iff s).mpr ⟨hf, hr, hleft⟩)
  have hidle : s.appIdle := not_not.mp hbusy
  have hreg : s.txRegEmpty = true := by
    by_contra hbusy
    exact Bool.eq_false_iff.mp hdone ((enabled_txDone_iff s).mpr ⟨Bool.eq_false_of_not_eq_true hbusy, hf, hr⟩)
  have htxie : s.txie = false := Bool.eq_false_iff.mpr fun h =>
    Bool.eq_false_iff.mp hready ((enabled_txReady_iff s).mpr ⟨hinit h, h, hreg, hf, hr⟩)
  have hempty : s.tx.empty = true := by
    by_contra hne
    simp [htx hidle (Bool.eq_false_of_not_eq_true hne)] at htxie
  exact (complete_iff s).mpr ⟨by omega, hidle, hu, hempty, htxie, hreg⟩

/-- Settles O24: a complete state has no duty, and `NoStranded` ties an empty `tx` to a disabled transmit interrupt. -/
theorem completeWhenNoDutyIsEnabled : Obligations.CompleteWhenNoDutyIsEnabled := by
  intro s hf hr hi hs hpc
  constructor
  · exact fun hc => ⟨not_enabled_of_complete hc rfl, not_enabled_of_complete hc rfl, not_enabled_of_complete hc rfl⟩
  · rintro ⟨happ, hready, hdone⟩
    exact complete_of_no_duty ((not_marked_iff s).mpr ⟨hf, hr⟩) hpc (fun hidle => hs hi hidle.1) (fun _ => hi)
      happ hready hdone

/-! ### Interrupts and the environment leave the application alone (R235) -/

/-- The application's sequencing state. -/
def State.sequencing (s : State) : Nat × AppPhase × Option WriteProgress × Option Result :=
  (s.appPc, s.appPhase, s.wb, s.res)

theorem sequencing_eq_iff {s t : State} : t.sequencing = s.sequencing ↔
    t.appPc = s.appPc ∧ t.appPhase = s.appPhase ∧ t.wb = s.wb ∧ t.res = s.res := by
  simp [State.sequencing]

theorem runMove_sequencing {m : Move} {s t : State} (hm : m ≠ .app) (h : runMove m s = .next t) :
    t.sequencing = s.sequencing := by
  cases m with
  | app => exact absurd rfl hm
  | rxEvent b => rw [exec_irq_frame (i := .rxEvent b) rfl h]; rfl
  | txReady => rw [exec_irq_frame (i := .txReady) rfl h]; rfl
  | txDone => cases h; rfl

/-- Settles O25: a handler and `TX_DONE` keep `sequencing`, and so does a choice passed over. -/
theorem interruptsLeaveTheApplicationAlone : Obligations.InterruptsLeaveTheApplicationAlone := by
  intro s t hs hl hm h
  apply sequencing_eq_iff.mp
  obtain hrun | rfl := step_live_platform hs hl h
  · exact runMove_sequencing (s := s.takeMove) hm hrun
  · rfl

/-! ### What a liberty leaves as it was (R232, R240) -/

/-- `t` is `s` but for the inbound buffer, the receive history and the choices: all that a receive delivery, or a choice passed
over, may write. -/
def State.OnlyReceives (s t : State) : Prop :=
  t = { s with rx := t.rx, rxLog := t.rxLog, schedule := t.schedule, draws := t.draws }

theorem execRxEvent_onlyReceives {b : Byte} {s t : State} (hi : s.initialized = true)
    (h : execRxEvent b s = .next t) : s.OnlyReceives t := by
  obtain ⟨hn, -⟩ | ⟨-, -, rfl⟩ | ⟨-, -, -, rfl⟩ := execRxEvent_next h
  · simp [hi] at hn
  · rfl
  · rfl

theorem runMove_onlyReceives {m : Move} {s t : State} (hm : Move.isDuty m = false) (he : s.enabled m = true)
    (h : runMove m s = .next t) : s.OnlyReceives t := by
  cases m with
  | rxEvent b =>
    obtain ⟨hi, -⟩ := (enabled_rxEvent_iff s b).mp he
    exact execRxEvent_onlyReceives hi h
  | _ => cases hm

section
variable {s t : State} (h : s.OnlyReceives t)
include h

theorem State.OnlyReceives.complete_eq : t.complete = s.complete := by
  rw [h]
  rfl

theorem State.OnlyReceives.enabled_eq (m : Move) : t.enabled m = s.enabled m := by
  rw [h]
  cases m <;> rfl

end

/-! ### Only `TX_DONE` empties the transmit register (R233, R237) -/

theorem exec_keeps_busy {i : Instr} {s t : State} (hs : s.txRegEmpty = false) (h : exec i s = .next t) :
    t.txRegEmpty = false := by
  cases i with
  | init sel => obtain ⟨-, rfl⟩ | ⟨-, rfl⟩ := execInit_next h <;> exact hs
  | writeByte b =>
    obtain ⟨-, rfl⟩ | ⟨-, hb⟩ := execWriteByte_next h
    · exact hs
    · rw [← wbPhase1_frame hb]
      exact hs
  | readByte => obtain ⟨-, rfl⟩ | ⟨-, -, rfl⟩ | ⟨-, -, v, -, rfl⟩ | ⟨-, -, -, rfl⟩ := execReadByte_next h <;> exact hs
  | available => obtain ⟨-, rfl⟩ | ⟨-, rfl⟩ := execAvailable_next h <;> exact hs
  | flushRx => obtain ⟨-, rfl⟩ | ⟨-, rfl⟩ := execFlushRx_next h <;> exact hs
  | rxEvent b => obtain ⟨-, rfl⟩ | ⟨-, -, rfl⟩ | ⟨-, -, -, rfl⟩ := execRxEvent_next h <;> exact hs
  | txReady =>
    obtain ⟨-, rfl⟩ | ⟨-, -, rfl⟩ | ⟨-, -, v, -, B, -, rfl⟩ | ⟨-, -, -, rfl⟩ := execTxReady_next h
    · exact hs
    · exact hs
    · rfl
    · exact hs
  | _ =>
    rw [exec_unit_frame rfl h]
    exact hs

/-- `WRITE_BUFFER` faults before `INIT` and writes the outbound fields alone after it (R155, R159). -/
theorem execWriteBuffer_fault_or_frame {bytes : List Byte} {s t : State} (h : execWriteBuffer bytes s = .next t) :
    (s.initialized = false ∧ t = s.recordFault (.notInitialized (.writeBuffer bytes))) ∨
    (s.initialized = true ∧ s.withWriteFieldsOf t = t) := by
  cases hi : s.initialized with
  | true => exact .inr ⟨rfl, execWriteBuffer_frame hi h⟩
  | false =>
    obtain ⟨-, e⟩ | ⟨hi', -⟩ | ⟨hi', -⟩ := execWriteBuffer_next h
    · exact .inl ⟨rfl, e⟩
    · simp [hi] at hi'
    · simp [hi] at hi'

theorem execWriteBuffer_keeps_busy {bytes : List Byte} {s t : State} (hs : s.txRegEmpty = false)
    (h : execWriteBuffer bytes s = .next t) : t.txRegEmpty = false := by
  obtain ⟨-, rfl⟩ | ⟨-, hf⟩ := execWriteBuffer_fault_or_frame h
  · exact hs
  · rw [← hf]
    exact hs

theorem issue_keeps_busy {c : Command} {s t : State} (hs : s.txRegEmpty = false) (h : issue c s = .next t) :
    t.txRegEmpty = false := by
  obtain ⟨w, why, -, -, rfl⟩ | ⟨w, i, -, -, -, he⟩ | ⟨w, i, -, -, -, rfl⟩ | ⟨bytes, -, -, he⟩ | ⟨bytes, -, -, rfl⟩ :=
    issue_next h
  · exact hs
  · exact exec_keeps_busy hs he
  · exact hs
  · exact execWriteBuffer_keeps_busy hs he
  · exact hs

theorem appStep_keeps_busy {s t : State} (hs : s.txRegEmpty = false) (h : appStep s = .next t) :
    t.txRegEmpty = false := by
  obtain ⟨-, rfl⟩ | ⟨-, p, -, hit⟩ | ⟨-, -, -, rfl⟩ | ⟨-, -, c, u, hc, hu⟩ := appStep_next h
  · rw [← wbPhase2_frame s]
    exact hs
  · rw [← writeBufferIterate_frame hit]
    exact hs
  · exact hs
  · obtain ⟨-, -, rfl⟩ | ⟨-, cs, -, rfl⟩ := nextCommand_some hc
    · exact issue_keeps_busy hs hu
    · exact issue_keeps_busy (s := s.setQueue cs) hs hu

theorem runMove_keeps_busy {m : Move} {s t : State} (hm : m ≠ .txDone) (hs : s.txRegEmpty = false)
    (h : runMove m s = .next t) : t.txRegEmpty = false := by
  cases m with
  | app => exact appStep_keeps_busy hs h
  | rxEvent b => exact exec_keeps_busy (i := .rxEvent b) hs h
  | txReady => exact exec_keeps_busy (i := .txReady) hs h
  | txDone => exact absurd rfl hm

/-- A step that empties the transmit register is the platform's, and its choice is `TX_DONE`. -/
theorem txDone_of_emptied {s t : State} (h : step s = .next t) (hs : s.txRegEmpty = false) (ht : t.txRegEmpty = true) :
    s.level = .platform ∧ s.nextMove = .txDone := by
  by_contra hno
  have hbusy : t.txRegEmpty = false := by
    obtain ⟨-, -, ⟨-, rfl⟩ | ⟨-, hl, hp⟩ | ⟨-, -, ha⟩⟩ := step_next h
    · exact hs
    · obtain ⟨-, hrun⟩ | ⟨-, rfl⟩ := platformStep_next hp
      · exact runMove_keeps_busy (s := s.takeMove) (fun hm => hno ⟨hl, hm⟩) hs hrun
      · exact hs
    · exact appStep_keeps_busy hs ha
  exact Bool.false_ne_true (hbusy.symm.trans ht)

/-! ### A step whose choice is a liberty (R240) -/

/-- A live platform step whose choice is a liberty, taken or passed over, is a receive delivery at most. -/
theorem step_onlyReceives {s t : State} (hs : s.live) (hl : s.level = .platform) (hm : Move.isDuty s.nextMove = false)
    (h : step s = .next t) : s.OnlyReceives t := by
  cases he : s.enabled s.nextMove with
  | true =>
    rw [step_eq_runMove hs hl he] at h
    exact (runMove_onlyReceives (s := s.takeMove) hm (by simpa using he) h).trans rfl
  | false =>
    rw [step_eq_takeMove hs hl he] at h
    cases h
    rfl

/-- Settles O57: a liberty writes nothing that a duty or completeness reads. -/
theorem waitsEndOnlyByDuties : Obligations.WaitsEndOnlyByDuties := by
  refine ⟨fun s t hs hl hm h => ?_, fun s t h => txDone_of_emptied h⟩
  have hkept : s.OnlyReceives t := step_onlyReceives hs hl hm h
  exact ⟨hkept.complete_eq, fun m _ => hkept.enabled_eq m⟩

end Sys2Proof.Machine
end

section
/-! SUPPORT. What a duty does on the way to the end of a run (R243): every enabled choice answers a next state (R60, R61), a step of
`APP` moves the program on (R34, R155), every step keeps the states of such a run, and every duty lowers their rank. -/

namespace Sys2Proof.Machine

/-! ### With indices in range every enabled choice answers a next state (R60, R61) -/

/-- The outcome is a next state. -/
def Answers (o : Host.Outcome State Fault Refusal) : Prop := ∃ t, o = .next t

theorem whenInitialized_answers {c : Command} {s : State} {go : Host.Outcome State Fault Refusal} (h : Answers go) :
    Answers (whenInitialized c s go) := by
  by_cases hi : s.initialized = true
  · rwa [whenInitialized_true go hi]
  · rw [whenInitialized_false go (Bool.eq_false_of_not_eq_true hi)]
    exact ⟨_, raiseFault_eq _ s⟩

theorem push_ne_noSlot {k : Nat} {B : RingBuffer} {b : Byte} {i : Nat} (hh : B.head < capacity k) :
    B.push k b ≠ .noSlot i := by
  intro h
  obtain ⟨-, e⟩ | ⟨-, -, e⟩ | ⟨-, hge, -⟩ := push_cases h
  · cases e
  · cases e
  · omega

theorem pop_ne_noSlot {k : Nat} {B : RingBuffer} {i : Nat} (ht : B.tail < capacity k) : B.pop k ≠ .noSlot i := by
  intro h
  obtain ⟨-, e⟩ | ⟨-, -, v, -, e⟩ | ⟨-, -, -, e⟩ | ⟨-, hge, -⟩ := pop_cases h
  · cases e
  · cases e
  · cases e
  · omega

theorem wbPhase1_answers {s : State} (b : Byte) (hh : s.tx.head < capacity s.params.kTx) : Answers (wbPhase1 b s) := by
  unfold wbPhase1
  split
  · exact ⟨_, rfl⟩
  · split <;> exact ⟨_, rfl⟩
  · next hp => exact absurd hp (push_ne_noSlot hh)

theorem writeBufferIterate_answers {s : State} (p : WriteProgress) (hh : s.tx.head < capacity s.params.kTx) :
    Answers (writeBufferIterate p s) := by
  unfold writeBufferIterate
  split
  · exact ⟨_, rfl⟩
  · exact wbPhase1_answers _ hh

section
variable {s : State} (hs : s.Inv)
include hs

/-- Every command that the platform runs answers a next state: no index names a slot outside its buffer. -/
theorem exec_answers {i : Instr} (hp : i.port ≠ .unit) : Answers (exec i s) := by
  cases i with
  | init sel =>
    show Answers (execInit sel s)
    unfold execInit
    split
    · exact ⟨_, refuse_eq _ s⟩
    · exact ⟨_, rfl⟩
  | writeByte b => exact whenInitialized_answers (wbPhase1_answers b hs.tx_ok.head_lt)
  | readByte =>
    refine whenInitialized_answers ?_
    split
    · exact ⟨_, rfl⟩
    · exact ⟨_, rfl⟩
    · exact ⟨_, raiseFault_eq _ s⟩
    · next hn => exact absurd hn (pop_ne_noSlot hs.rx_ok.tail_lt)
  | available => exact whenInitialized_answers ⟨_, rfl⟩
  | flushRx => exact whenInitialized_answers ⟨_, rfl⟩
  | rxEvent b =>
    refine whenInitialized_answers ?_
    split
    · exact ⟨_, rfl⟩
    · exact ⟨_, rfl⟩
    · next hn => exact absurd hn (push_ne_noSlot hs.rx_ok.head_lt)
  | txReady =>
    refine whenInitialized_answers ?_
    split
    · exact ⟨_, rfl⟩
    · exact ⟨_, rfl⟩
    · exact ⟨_, raiseFault_eq _ s⟩
    · next hn => exact absurd hn (pop_ne_noSlot hs.tx_ok.tail_lt)
  | _ => exact absurd rfl hp

variable (hl : s.level = .platform)
include hl

theorem issue_answers (c : Command) : Answers (issue c s) := by
  cases c with
  | word w =>
    simp only [issue]
    split
    · exact ⟨_, refuse_eq _ s⟩
    · next i _ =>
      split
      · next ha =>
        have hp : i.port = .app := admits_platform (hl ▸ ha)
        exact exec_answers hs (fun hunit => nomatch hp.symm.trans hunit)
      · exact ⟨_, refuse_eq _ s⟩
  | writeBuffer bytes =>
    have hadm : s.level.admits .app = true := by rw [hl]; rfl
    have hiter := writeBufferIterate_answers (s := s.setWb (some ⟨bytes, 0⟩)) ⟨bytes, 0⟩ hs.tx_ok.head_lt
    simp only [issue, hadm, if_true]
    exact whenInitialized_answers (by rwa [if_pos hl])

theorem appStep_answers : Answers (appStep s) := by
  unfold appStep
  split
  · exact ⟨_, rfl⟩
  · split
    · exact writeBufferIterate_answers _ hs.tx_ok.head_lt
    · split
      · exact ⟨_, rfl⟩
      · next hn =>
        obtain ⟨-, -, rfl⟩ | ⟨hne, -⟩ := nextCommand_some hn
        · exact issue_answers hs hl _
        · exact absurd hl hne

theorem runMove_answers (m : Move) : Answers (runMove m s) := by
  cases m with
  | app => exact appStep_answers hs hl
  | rxEvent b => exact exec_answers hs (i := .rxEvent b) nofun
  | txReady => exact exec_answers hs (i := .txReady) nofun
  | txDone => exact ⟨_, rfl⟩

end

/-! ### A step of `APP` moves the program on (R34, R35, R150, R155) -/

/-- How many steps of `APP` the command in progress may still take, without the last one; with none in progress the next
command is yet to be fetched, and no number bounds its steps. -/
def State.commandSteps (s : State) : WithTop Nat :=
  match s.wb, s.appPhase with
  | none, .idle => ⊤
  | none, .enablePending => 0
  | some p, .idle => ((2 * p.rest.length + 1 : Nat) : WithTop Nat)
  | some p, .enablePending => ((2 * p.rest.length : Nat) : WithTop Nat)

theorem commandSteps_of_idle {s : State} (hi : s.appIdle) : s.commandSteps = ⊤ := by
  obtain ⟨hp, hw⟩ := hi
  simp [State.commandSteps, hp, hw]

theorem commandSteps_lt_top {s : State} (hb : ¬ s.appIdle) : s.commandSteps < ⊤ := by
  unfold State.commandSteps
  split
  · next hw hp => exact absurd ⟨hp, hw⟩ hb
  · exact WithTop.coe_lt_top 0
  · exact WithTop.coe_lt_top _
  · exact WithTop.coe_lt_top _

/-- The three ends of a step of `APP` that has a step left: a mark is recorded, the command completes, or it goes on with fewer
steps left. -/
inductive AppProgress (s t : State) : Prop where
  | marks (hmark : t.marked)
  | completes (hpc : t.appPc = s.appPc + 1) (hidle : t.appIdle)
  | goesOn (hpc : t.appPc = s.appPc) (hbusy : ¬ t.appIdle) (hless : t.commandSteps < s.commandSteps)

theorem recordFault_marked (s : State) (k : FaultKind) : (s.recordFault k).marked := .inl nofun

theorem recordRefusal_marked (s : State) (r : RefusalKind) : (s.recordRefusal r).marked := .inr nofun

/-- The completion of a command, after writes that leave the sequencing state. -/
theorem finish_progress {s u : State} (r : Result) (hl : u.level = .platform) (hpc : u.appPc = s.appPc)
    (hi : u.appIdle) : AppProgress s (u.finish r) :=
  .completes (by rw [finish_of_platform r hl, ← hpc]) hi

/-- The start of a `WRITE_BUFFER` is a part of its first step. -/
theorem AppProgress.of_setWb {s t : State} {w : Option WriteProgress} (hi : s.appIdle)
    (h : AppProgress (s.setWb w) t) : AppProgress s t := by
  cases h with
  | marks hmark => exact .marks hmark
  | completes hpc hidle => exact .completes hpc hidle
  | goesOn hpc hbusy hless => exact .goesOn hpc hbusy (commandSteps_of_idle hi ▸ commandSteps_lt_top hbusy)

section
variable {s t : State} (hl : s.level = .platform)
include hl

/-- A byte that does not fit completes its command, and one that is stored leaves phase 2 to do (R152, R155). -/
theorem wbPhase1_progress {b : Byte} (hp : s.appPhase = .idle) (h : wbPhase1 b s = .next t) : AppProgress s t := by
  obtain ⟨-, rfl⟩ | ⟨-, -, B, -, ⟨-, rfl⟩ | ⟨hne, -⟩⟩ := wbPhase1_next h
  · cases hw : s.wb with
    | none =>
      rw [writeByteReturn_of_no_wb false hw]
      exact finish_progress _ hl rfl ⟨hp, hw⟩
    | some p =>
      rw [writeByteReturn_false_of_wb hw]
      exact finish_progress _ hl rfl ⟨hp, rfl⟩
  · refine .goesOn rfl (fun hi => nomatch hi.1) ?_
    cases hw : s.wb with
    | none => simp [State.commandSteps, hp, hw]
    | some p =>
      simp only [State.commandSteps, setPhase_wb, setPhase_appPhase, setTx_wb, hp, hw]
      exact WithTop.coe_lt_coe.mpr (Nat.lt_succ_self _)
  · exact absurd hl hne

theorem writeBufferIterate_progress {p : WriteProgress} (hp : s.appPhase = .idle)
    (h : writeBufferIterate p s = .next t) : AppProgress s t := by
  obtain ⟨-, rfl⟩ | ⟨b, rest, -, hb⟩ := writeBufferIterate_next h
  · exact finish_progress _ hl rfl ⟨hp, rfl⟩
  · exact wbPhase1_progress hl hp hb

/-- Phase 2 completes a `WRITE_BYTE` of its own, and takes its byte off the list of a `WRITE_BUFFER` (R153, R155). -/
theorem wbPhase2_progress (hs : s.Inv) (hp : s.appPhase = .enablePending) : AppProgress s s.wbPhase2 := by
  cases hw : s.wb with
  | none =>
    rw [wbPhase2_of_no_wb hw]
    exact finish_progress _ hl rfl ⟨rfl, hw⟩
  | some p =>
    rw [wbPhase2_of_wb hw]
    refine .goesOn rfl (fun hi => nomatch hi.2) ?_
    have hpos : 0 < p.rest.length := List.length_pos_of_ne_nil (hs.control.pending_byte hp p hw)
    simp only [State.commandSteps, setWb_wb, setWb_appPhase, setPhase_appPhase, hp, hw, List.length_tail]
    have hless : 2 * (p.rest.length - 1) + 1 < 2 * p.rest.length := by omega
    exact WithTop.coe_lt_coe.mpr hless

theorem exec_progress {i : Instr} (hport : i.port = .app) (hi : s.appIdle) (h : exec i s = .next t) :
    AppProgress s t := by
  cases i with
  | init sel =>
    obtain ⟨-, rfl⟩ | ⟨-, rfl⟩ := execInit_next h
    · exact .marks (recordRefusal_marked s _)
    · exact finish_progress _ hl rfl hi
  | writeByte b =>
    obtain ⟨-, rfl⟩ | ⟨-, hb⟩ := execWriteByte_next h
    · exact .marks (recordFault_marked s _)
    · exact wbPhase1_progress hl hi.1 hb
  | readByte =>
    obtain ⟨-, rfl⟩ | ⟨-, -, rfl⟩ | ⟨-, -, v, -, rfl⟩ | ⟨-, -, -, rfl⟩ := execReadByte_next h
    · exact .marks (recordFault_marked s _)
    · exact finish_progress _ hl rfl hi
    · exact finish_progress _ hl rfl hi
    · exact .marks (recordFault_marked s _)
  | available =>
    obtain ⟨-, rfl⟩ | ⟨-, rfl⟩ := execAvailable_next h
    · exact .marks (recordFault_marked s _)
    · exact finish_progress _ hl rfl hi
  | flushRx =>
    obtain ⟨-, rfl⟩ | ⟨-, rfl⟩ := execFlushRx_next h
    · exact .marks (recordFault_marked s _)
    · exact finish_progress _ hl rfl hi
  | _ => cases hport

theorem issue_progress {c : Command} (hi : s.appIdle) (h : issue c s = .next t) : AppProgress s t := by
  obtain ⟨w, why, -, -, rfl⟩ | ⟨w, i, -, -, ha, he⟩ | ⟨w, i, -, -, -, rfl⟩ | ⟨bytes, -, -, he⟩ | ⟨bytes, -, -, rfl⟩ :=
    issue_next h
  · exact .marks (recordRefusal_marked s _)
  · exact exec_progress hl (admits_platform (hl ▸ ha)) hi he
  · exact .marks (recordRefusal_marked s _)
  · obtain ⟨-, rfl⟩ | ⟨-, -, hit⟩ | ⟨-, hne, -⟩ := execWriteBuffer_next he
    · exact .marks (recordFault_marked s _)
    · exact .of_setWb hi (writeBufferIterate_progress (s := s.setWb (some ⟨bytes, 0⟩)) hl hi.1 hit)
    · exact absurd hl hne
  · exact .marks (recordRefusal_marked s _)

theorem appStep_progress (hs : s.Inv) (hleft : ¬ s.appIdle ∨ s.appPc < s.program.length) (h : appStep s = .next t) :
    AppProgress s t := by
  obtain ⟨hp, rfl⟩ | ⟨hp, p, -, hit⟩ | ⟨hp, hw, hn, -⟩ | ⟨hp, hw, c, u, hc, hu⟩ := appStep_next h
  · exact wbPhase2_progress hl hs hp
  · exact writeBufferIterate_progress hl hp hit
  · have hlt : s.appPc < s.program.length := hleft.resolve_left (not_not_intro ⟨hp, hw⟩)
    simp [nextCommand_of_program hl (List.getElem?_eq_getElem hlt)] at hn
  · obtain ⟨-, -, rfl⟩ | ⟨hne, -⟩ := nextCommand_some hc
    · exact issue_progress hl ⟨hp, hw⟩ hu
    · exact absurd hl hne

end

/-! ### The states of a run that ends (R199, R243) -/

/-- Before `INIT` no byte waits in `tx`: only a write puts one there, and `INIT` clears the buffer. -/
structure State.TxAfterInit (s : State) : Prop where
  inv : s.Inv
  initialized : s.tx.empty = false → s.initialized = true

theorem State.TxAfterInit.of_configPart {s t : State} (hi : s.initialized = true) (ht : t.Inv)
    (e : t.configPart = s.configPart) : t.TxAfterInit :=
  ⟨ht, fun _ => (initialized_of_configPart e).trans hi⟩

theorem exec_txAfterInit {i : Instr} {s t : State} (hs : s.tx.empty = false → s.initialized = true) (ht : t.Inv)
    (h : exec i s = .next t) : t.TxAfterInit := by
  by_cases hi : s.initialized = true
  · exact .of_configPart hi ht (exec_configPart hi h)
  refine ⟨ht, ?_⟩
  by_cases hunit : i.port = .unit
  · rw [exec_unit_frame hunit h]
    exact hs
  by_cases hinit : ∃ sel, i = .init sel
  · obtain ⟨sel, rfl⟩ := hinit
    obtain ⟨hi', -⟩ | ⟨-, rfl⟩ := execInit_next h
    · exact absurd hi' hi
    · exact fun _ => rfl
  · rw [exec_before_init (Bool.eq_false_of_not_eq_true hi) hunit fun sel e => hinit ⟨sel, e⟩] at h
    cases h
    exact hs

theorem txAfterInit_kept : KeptByParts State.TxAfterInit where
  refusal s r hs := ⟨inv_kept.refusal s r hs.inv, hs.initialized⟩
  queue s cs hs := ⟨inv_kept.queue s cs hs.inv, hs.initialized⟩
  choice s hs := ⟨inv_kept.choice s hs.inv, hs.initialized⟩
  txDone s hs := ⟨inv_kept.txDone s hs.inv, hs.initialized⟩
  exec _ _ _ hs hwf hidle h := exec_txAfterInit hs.initialized (exec_inv hs.inv hwf hidle h) h
  writeBuffer bytes s t hs hidle h := by
    have ht : t.Inv := execWriteBuffer_inv hs.inv hidle.1 h
    obtain ⟨-, rfl⟩ | ⟨hi, hf⟩ := execWriteBuffer_fault_or_frame h
    · exact ⟨ht, hs.initialized⟩
    · exact .of_configPart hi ht (configPart_of_write hf)
  iterate _ _ _ hs hidle hw h :=
    .of_configPart (hs.inv.initialized_of_busy fun hi => nomatch hi.2.symm.trans hw)
      (writeBufferIterate_inv hs.inv hidle hw h) (configPart_of_write (writeBufferIterate_frame h))
  phase2 s hs hp := by
    have hi : s.initialized = true := hs.inv.initialized_of_busy fun hi => nomatch hi.1.symm.trans hp
    exact .of_configPart hi (wbPhase2_inv hs.inv hi) (configPart_of_write (wbPhase2_frame s))

/-- What every unmarked state of a run meets that starts as R243 asks: the invariants, and `appPc` in the program, at a command of
the program while one is in progress. -/
structure State.OnTrack (s : State) : Prop where
  level : s.level = .platform
  txAfterInit : s.TxAfterInit
  noStranded : s.NoStranded
  pc_le : s.appPc ≤ s.program.length
  busy_lt : ¬ s.appIdle → s.appPc < s.program.length

section
variable {s t : State} (hs : s.OnTrack)
include hs

theorem State.OnTrack.pc_lt_of_app (he : s.enabled .app = true) : s.appPc < s.program.length := by
  obtain ⟨-, -, hleft⟩ := (enabled_app_iff s).mp he
  exact hleft.elim hs.busy_lt id

theorem State.OnTrack.app_progress (he : s.enabled .app = true) (h : appStep s = .next t) : AppProgress s t := by
  obtain ⟨-, -, hleft⟩ := (enabled_app_iff s).mp he
  exact appStep_progress hs.level hs.txAfterInit.inv hleft h

/-- The other choices than `APP` leave the sequencing state, and a choice is used up. -/
theorem State.OnTrack.of_sequencing (hl : t.level = .platform) (htx : t.TxAfterInit) (hn : t.NoStranded)
    (hprog : t.program = s.program) (e : t.sequencing = s.sequencing) : t.OnTrack := by
  obtain ⟨hpc, hphase, hwb, -⟩ := sequencing_eq_iff.mp e
  refine ⟨hl, htx, hn, ?_, fun hb => ?_⟩
  · rw [hpc, hprog]
    exact hs.pc_le
  · rw [hpc, hprog]
    exact hs.busy_lt fun ⟨hp, hw⟩ => hb ⟨hphase.trans hp, hwb.trans hw⟩

theorem State.OnTrack.choice : s.takeMove.OnTrack :=
  hs.of_sequencing hs.level (txAfterInit_kept.choice s hs.txAfterInit) hs.noStranded rfl rfl

theorem State.OnTrack.offer (m : Move) : (s.offer m).OnTrack :=
  hs.of_sequencing hs.level ⟨hs.txAfterInit.inv.of_same rfl rfl rfl rfl, hs.txAfterInit.initialized⟩ hs.noStranded rfl rfl

theorem State.OnTrack.runMove {m : Move} (he : s.enabled m = true) (h : runMove m s = .next t) :
    t.marked ∨ t.OnTrack := by
  have htx : t.TxAfterInit := txAfterInit_kept.runMove hs.txAfterInit h
  have hn : t.NoStranded := noStranded_kept.runMove hs.noStranded h
  obtain ⟨-, hprog, hlevel⟩ := fixedPart_eq_iff.mp (runMove_fixedPart h)
  have hl : t.level = .platform := hlevel.trans hs.level
  by_cases hm : m = .app
  · subst hm
    have hlt : s.appPc < t.program.length := hprog ▸ hs.pc_lt_of_app he
    cases hs.app_progress he h with
    | marks hmark => exact .inl hmark
    | completes hpc hidle => exact .inr ⟨hl, htx, hn, by omega, fun hb => absurd hidle hb⟩
    | goesOn hpc hbusy hless => exact .inr ⟨hl, htx, hn, by omega, fun _ => by omega⟩
  · exact .inr (hs.of_sequencing hl htx hn hprog (runMove_sequencing hm h))

theorem State.OnTrack.step (h : step s = .next t) : t.marked ∨ t.OnTrack := by
  obtain ⟨-, -, ⟨-, rfl⟩ | ⟨-, -, hp⟩ | ⟨-, hne, -⟩⟩ := step_next h
  · exact .inl (recordRefusal_marked s _)
  · obtain ⟨he, hrun⟩ | ⟨-, rfl⟩ := platformStep_next hp
    · exact hs.choice.runMove (by simpa using he) hrun
    · exact .inr hs.choice
  · exact absurd hs.level hne

/-- A state on track that is neither complete nor marked has an enabled duty (R243). -/
theorem State.OnTrack.exists_enabled_duty (hu : ¬ s.marked) (hc : s.complete ≠ true) :
    ∃ m, Move.isDuty m = true ∧ s.enabled m = true := by
  by_contra hno
  push Not at hno
  have hoff : ∀ m, Move.isDuty m = true → s.enabled m = false := fun m hm => Bool.eq_false_of_not_eq_true (hno m hm)
  have htx : s.appIdle → s.tx.empty = false → s.txie = true := fun hidle hne =>
    hs.noStranded (hs.txAfterInit.initialized hne) hidle.1 hne
  have hinit : s.txie = true → s.initialized = true := by
    intro hset
    by_contra hi
    obtain ⟨hclear, -⟩ := hs.txAfterInit.inv.control.before_init (Bool.eq_false_of_not_eq_true hi)
    simp [hset] at hclear
  exact hc (complete_of_no_duty hu hs.pc_le htx hinit (hoff .app rfl) (hoff .txReady rfl) (hoff .txDone rfl))

end

/-! ### The rank that a duty lowers -/

/-- A bound on the transmitter's duties with no further step of `APP`: a byte takes a `TX_READY` and a `TX_DONE`, the enabled
interrupt a last `TX_READY`, and the busy register a `TX_DONE`. -/
def State.txWork (s : State) : Nat := 2 * s.tx.available s.params.kTx + s.txie.toNat + (!s.txRegEmpty).toNat

/-- The commands left, then the steps left of the command in progress, then the transmitter's duties. -/
def State.rank (s : State) : Nat ×ₗ WithTop Nat ×ₗ Nat :=
  toLex (s.program.length - s.appPc, toLex (s.commandSteps, s.txWork))

section
variable {s t : State}

theorem rank_lt_of_commands (h : t.program.length - t.appPc < s.program.length - s.appPc) : t.rank < s.rank :=
  Prod.Lex.toLex_lt_toLex.mpr (.inl h)

theorem rank_lt_of_commandSteps (hprog : t.program = s.program) (hpc : t.appPc = s.appPc)
    (h : t.commandSteps < s.commandSteps) : t.rank < s.rank :=
  Prod.Lex.toLex_lt_toLex.mpr (.inr ⟨by rw [hprog, hpc], Prod.Lex.toLex_lt_toLex.mpr (.inl h)⟩)

theorem rank_lt_of_txWork (hprog : t.program = s.program) (e : t.sequencing = s.sequencing)
    (h : t.txWork < s.txWork) : t.rank < s.rank := by
  obtain ⟨hpc, hphase, hwb, -⟩ := sequencing_eq_iff.mp e
  have hsteps : t.commandSteps = s.commandSteps := by rw [State.commandSteps, State.commandSteps, hphase, hwb]
  exact Prod.Lex.toLex_lt_toLex.mpr (.inr ⟨by rw [hprog, hpc], Prod.Lex.toLex_lt_toLex.mpr (.inr ⟨hsteps, h⟩)⟩)

theorem State.OnlyReceives.rank_eq (h : s.OnlyReceives t) : t.rank = s.rank := by
  rw [h]
  rfl

/-- `TX_READY` takes a byte off `tx`, which makes the register busy, or disables the transmit interrupt (R193). -/
theorem execTxReady_txWork (hB : s.tx.Ok s.params.kTx) (he : s.enabled .txReady = true)
    (h : execTxReady s = .next t) : t.marked ∨ t.txWork < s.txWork := by
  obtain ⟨hi, htxie, hreg, -⟩ := (enabled_txReady_iff s).mp he
  obtain ⟨hn, -⟩ | ⟨-, -, rfl⟩ | ⟨-, hn, v, -, B, rfl, rfl⟩ | ⟨-, -, -, rfl⟩ := execTxReady_next h
  · simp [hi] at hn
  · right
    simp [State.txWork, htxie]
  · right
    have hone : s.tx.available s.params.kTx = (s.tx.popped s.params.kTx).available s.params.kTx + 1 :=
      hB.available_popped hn
    have hle : (s.txie && !(s.tx.popped s.params.kTx).empty).toNat ≤ 1 := Bool.toNat_le _
    show 2 * (s.tx.popped s.params.kTx).available s.params.kTx +
      (s.txie && !(s.tx.popped s.params.kTx).empty).toNat + 1 < s.txWork
    simp only [State.txWork, htxie, hreg, Bool.toNat_true, Bool.not_true, Bool.toNat_false] at hle ⊢
    omega
  · exact .inl (recordFault_marked s _)

theorem txDone_txWork (he : s.enabled .txDone = true) : s.txDone.txWork < s.txWork := by
  obtain ⟨hbusy, -⟩ := (enabled_txDone_iff s).mp he
  simp [State.txWork, State.txDone, hbusy]

/-- Every enabled duty records a mark or lowers the rank. -/
theorem State.OnTrack.duty_rank_lt (hs : s.OnTrack) {m : Move} (hm : Move.isDuty m = true) (he : s.enabled m = true)
    (h : Machine.runMove m s = .next t) : t.marked ∨ t.rank < s.rank := by
  obtain ⟨-, hprog, -⟩ := fixedPart_eq_iff.mp (runMove_fixedPart h)
  cases m with
  | app =>
    have hlt : s.appPc < s.program.length := hs.pc_lt_of_app he
    cases hs.app_progress he h with
    | marks hmark => exact .inl hmark
    | completes hpc hidle => exact .inr (rank_lt_of_commands (by rw [hprog, hpc]; omega))
    | goesOn hpc hbusy hless => exact .inr (rank_lt_of_commandSteps hprog hpc hless)
  | rxEvent b => cases hm
  | txReady =>
    exact (execTxReady_txWork hs.txAfterInit.inv.tx_ok he h).imp_right
      (rank_lt_of_txWork hprog (runMove_sequencing (m := .txReady) nofun h))
  | txDone =>
    cases h
    exact .inr (rank_lt_of_txWork rfl rfl (txDone_txWork he))

end

end Sys2Proof.Machine
end

section
/-! SUPPORT. Fair runs of the platform (R240, R242, R243): what every boundary of a run keeps, the duty that stays enabled, and the
end of a run; with the statements they settle. -/

namespace Sys2Proof.Machine

/-! ### What the boundaries of a run keep (R222, R242) -/

/-- What the start of a run meets, offering a choice leaves and every step keeps, each boundary meets. -/
theorem IsPlatformRun.keeps {P : State → Prop} {r : Nat → State} {ms : Nat → Move} (hrun : IsPlatformRun r ms)
    (h0 : P (r 0)) (hoffer : ∀ s m, P s → P (s.offer m)) (hstep : ∀ s t, P s → step s = .next t → P t) :
    ∀ n, P (r n) := by
  intro n
  induction n with
  | zero => exact h0
  | succ n ih =>
    rcases hrun.2 n with h | ⟨-, e⟩
    · exact hstep _ _ (hoffer _ _ ih) h
    · exact e ▸ ih

section
variable {r : Nat → State} {ms : Nat → Move} (hrun : IsPlatformRun r ms)
include hrun

theorem IsPlatformRun.level (n : Nat) : (r n).level = .platform := by
  refine hrun.keeps (P := fun s => s.level = .platform) hrun.1 (fun _ _ hs => hs) (fun s t hs h => ?_) n
  obtain ⟨-, -, hlevel⟩ := fixedPart_eq_iff.mp (step_fixedPart h)
  exact hlevel.trans hs

/-- A marked state stays (R222). -/
theorem IsPlatformRun.succ_of_marked {n : Nat} (hm : (r n).marked) : r (n + 1) = r n := by
  rcases hrun.2 n with h | ⟨-, e⟩
  · exact absurd h (not_next_of_marked (s := (r n).offer (ms n)) hm)
  · exact e

/-- A boundary at which no duty is taken records a mark or is a receive delivery at most. -/
theorem IsPlatformRun.onlyReceives {n : Nat} (hno : ∀ m, Move.isDuty m = true → ¬ TakenAt r ms m n) :
    (r (n + 1)).marked ∨ (r n).OnlyReceives (r (n + 1)) := by
  obtain ⟨hl, he, hm⟩ | ⟨-, -, e⟩ | ⟨-, hmark⟩ | ⟨-, e⟩ := run_boundary hrun (hrun.level n)
  · have hfree : Move.isDuty (ms n) = false := Bool.eq_false_iff.mpr fun hd => hno _ hd ⟨rfl, hl, he⟩
    exact .inr ((runMove_onlyReceives hfree (by simpa using he) hm).trans rfl)
  · exact .inr (by rw [e]; rfl)
  · exact .inl hmark
  · exact .inr (by rw [e]; rfl)

/-- At a boundary at which `TX_DONE` is not taken, a busy transmit register stays busy or a mark is recorded. -/
theorem IsPlatformRun.busy_succ {n : Nat} (hno : ¬ TakenAt r ms .txDone n) (hs : (r n).txRegEmpty = false) :
    (r (n + 1)).marked ∨ (r (n + 1)).txRegEmpty = false := by
  obtain ⟨hl, he, hm⟩ | ⟨-, -, e⟩ | ⟨-, hmark⟩ | ⟨-, e⟩ := run_boundary hrun (hrun.level n)
  · have hne : ms n ≠ .txDone := fun e => hno ⟨e, hl, e ▸ he⟩
    exact .inr (runMove_keeps_busy (s := ((r n).offer (ms n)).takeMove) hne hs hm)
  · exact .inr (by rw [e]; exact hs)
  · exact .inl hmark
  · exact .inr (by rw [e]; exact hs)

end

/-! ### Fairness takes a duty that stays enabled (R240, R242) -/

/-- A duty that is enabled, and stays so from boundary to boundary, is taken in the end. -/
theorem WeaklyFair.taken_of_stays {r : Nat → State} {ms : Nat → Move} (hfair : WeaklyFair r ms) {m : Move} {n : Nat}
    (hm : Move.isDuty m = true) (he : (r n).enabled m = true)
    (hstays : ∀ j, n ≤ j → (r j).enabled m = true → (r (j + 1)).enabled m = true) : ∃ j, n ≤ j ∧ TakenAt r ms m j :=
  hfair m hm n (Nat.le_induction he hstays)

/-- Settles O58: while no mark is set and `TX_DONE` is not taken the register stays busy, so `TX_DONE` stays enabled, and
fairness takes it. -/
theorem fairnessMeetsTheDuty : Obligations.FairnessMeetsTheDuty := by
  intro r ms hrun hfair n hbusy
  by_contra hno
  push Not at hno
  have henabled : ∀ j, n ≤ j → (r j).txRegEmpty = false → (r j).enabled .txDone = true := fun j hj hs =>
    (enabled_txDone_iff (r j)).mpr ⟨hs, (not_marked_iff _).mp (hno j hj).2⟩
  have hstays : ∀ j, n ≤ j → (r j).enabled .txDone = true → (r (j + 1)).enabled .txDone = true := by
    intro j hj he
    obtain ⟨hs, -⟩ := (enabled_txDone_iff (r j)).mp he
    have hj' : n ≤ j + 1 := Nat.le_succ_of_le hj
    exact henabled (j + 1) hj' ((hrun.busy_succ (hno j hj).1 hs).resolve_left (hno (j + 1) hj').2)
  obtain ⟨j, hj, htaken⟩ := hfair.taken_of_stays rfl (henabled n le_rfl hbusy) hstays
  exact (hno j hj).1 htaken

/-- While no mark is set, an enabled duty leads to a duty being taken: as long as none is, the enabled one stays so. -/
theorem exists_duty_taken {r : Nat → State} {ms : Nat → Move} (hrun : IsPlatformRun r ms) (hfair : WeaklyFair r ms)
    {n : Nat} (hu : ∀ j, ¬ (r j).marked) {m : Move} (hm : Move.isDuty m = true) (he : (r n).enabled m = true) :
    ∃ j, n ≤ j ∧ ∃ m', Move.isDuty m' = true ∧ TakenAt r ms m' j := by
  by_contra hno
  push Not at hno
  have hstays : ∀ j, n ≤ j → (r j).enabled m = true → (r (j + 1)).enabled m = true := by
    intro j hj he
    have hkept : (r j).OnlyReceives (r (j + 1)) := (hrun.onlyReceives (hno j hj)).resolve_left (hu (j + 1))
    exact (hkept.enabled_eq m).trans he
  obtain ⟨j, hj, htaken⟩ := hfair.taken_of_stays hm he hstays
  exact hno j hj m hm htaken

/-! ### The end of a fair run (R242, R243) -/

/-- The run is over at this state but for receive deliveries: it is complete, or a mark has stopped it. -/
def State.ended (s : State) : Prop := s.complete = true ∨ s.marked

/-- An ended state takes no duty. -/
theorem not_takenAt_of_ended {r : Nat → State} {ms : Nat → Move} {n : Nat} (h : (r n).ended) {m : Move}
    (hm : Move.isDuty m = true) : ¬ TakenAt r ms m n := by
  rintro ⟨-, -, he⟩
  obtain hc | hmark := h
  · simp [not_enabled_of_complete hc hm] at he
  · exact unmarked_of_enabled he hmark

section
variable {r : Nat → State} {ms : Nat → Move} (hrun : IsPlatformRun r ms)
include hrun

theorem IsPlatformRun.onTrack (h0 : (r 0).OnTrack) (n : Nat) : (r n).marked ∨ (r n).OnTrack :=
  hrun.keeps (P := fun s => s.marked ∨ s.OnTrack) (.inr h0)
    (fun _ m hs => hs.imp id (State.OnTrack.offer · m))
    (fun _ _ hs h => hs.elim (fun hm => absurd h (not_next_of_marked hm)) (State.OnTrack.step · h)) n

/-- A duty that is taken on track runs: its step answers a next state. -/
theorem IsPlatformRun.runMove_of_taken {m : Move} {n : Nat} (hs : (r n).OnTrack) (htaken : TakenAt r ms m n) :
    runMove m ((r n).offer m).takeMove = .next (r (n + 1)) := by
  obtain ⟨rfl, hl, he⟩ := htaken
  obtain ⟨-, -, hm⟩ | ⟨-, hoff, -⟩ | ⟨hbad, -⟩ | ⟨hstuck, -⟩ := run_boundary hrun hs.level
  · exact hm
  · simp [he] at hoff
  · obtain ⟨-, -, hw⟩ := hl
    simp [hw] at hbad
  · have hs' := hs.offer (ms n)
    have hrunMove := step_eq_runMove (s := (r n).offer (ms n)) hl hs'.level (by simpa using he)
    obtain ⟨t, ht⟩ := runMove_answers hs'.choice.txAfterInit.inv hs'.level (ms n)
    exact absurd (hrunMove.trans ht) (hstuck t)

theorem IsPlatformRun.rank_lt_of_taken {m : Move} {n : Nat} (hs : (r n).OnTrack) (hm : Move.isDuty m = true)
    (htaken : TakenAt r ms m n) : (r (n + 1)).marked ∨ (r (n + 1)).rank < (r n).rank := by
  have ⟨_, _, he⟩ := htaken
  exact (hs.offer m).choice.duty_rank_lt hm (by simpa using he) (hrun.runMove_of_taken hs htaken)

/-- On track and unmarked, the rank never rises from one boundary to the next. -/
theorem IsPlatformRun.rank_antitone (hs : ∀ n, (r n).OnTrack) (hu : ∀ n, ¬ (r n).marked) :
    Antitone fun n => (r n).rank := by
  refine antitone_nat_of_succ_le fun n => ?_
  by_cases hduty : ∃ m, Move.isDuty m = true ∧ TakenAt r ms m n
  · obtain ⟨m, hm, htaken⟩ := hduty
    exact ((hrun.rank_lt_of_taken (hs n) hm htaken).resolve_left (hu (n + 1))).le
  · push Not at hduty
    exact ((hrun.onlyReceives hduty).resolve_left (hu (n + 1))).rank_eq.le

/-- A fair run ends: at a boundary of least rank a duty would be enabled, so one would be taken later and lower the rank. -/
theorem IsPlatformRun.exists_ended (h0 : (r 0).OnTrack) (hfair : WeaklyFair r ms) : ∃ n, (r n).ended := by
  by_contra hno
  push Not at hno
  have hu : ∀ n, ¬ (r n).marked := fun n hm => hno n (.inr hm)
  have hs : ∀ n, (r n).OnTrack := fun n => (hrun.onTrack h0 n).resolve_left (hu n)
  obtain ⟨n, hleast⟩ : ∃ n, ∀ j, ¬ (r j).rank < (r n).rank := ⟨_, Function.not_lt_argmin fun n => (r n).rank⟩
  obtain ⟨m, hm, he⟩ := (hs n).exists_enabled_duty (hu n) fun hc => hno n (.inl hc)
  obtain ⟨j, hj, m', hm', htaken⟩ := exists_duty_taken hrun hfair hu hm he
  have hlt : (r (j + 1)).rank < (r j).rank := (hrun.rank_lt_of_taken (hs j) hm' htaken).resolve_left (hu (j + 1))
  exact hleast (j + 1) (hlt.trans_le (hrun.rank_antitone hs hu hj))

theorem IsPlatformRun.ended_succ {n : Nat} (h : (r n).ended) : (r (n + 1)).ended := by
  obtain hmark | hkept := hrun.onlyReceives fun _ hm => not_takenAt_of_ended h hm
  · exact .inr hmark
  · exact h.imp hkept.complete_eq.trans fun hm => (hrun.succ_of_marked hm).symm ▸ hm

end

/-- Settles O59: the run ends by the rank, stays ended, and once no byte is delivered nothing is left to take. -/
theorem fairRunsEnd : Obligations.FairRunsEnd := by
  intro r ms hrun hinv hns hidle hpc htx hfair
  have h0 : (r 0).OnTrack := ⟨hrun.1, ⟨hinv, htx⟩, hns, hpc, fun hb => absurd hidle hb⟩
  obtain ⟨n, hn⟩ := hrun.exists_ended h0 hfair
  refine ⟨⟨n, hn⟩, fun ⟨k, hk⟩ => ?_⟩
  have hend : ∀ j, n ≤ j → (r j).ended := fun j hj =>
    Nat.le_induction hn (fun _ _ ih => hrun.ended_succ ih) j hj
  refine ⟨max n k, hend _ (le_max_left n k), fun m j hj => ?_⟩
  cases m with
  | rxEvent b => exact hk j b (le_of_max_le_right hj)
  | app | txReady | txDone => exact not_takenAt_of_ended (hend j (le_of_max_le_left hj)) rfl

end Sys2Proof.Machine
end

section
/-! SUPPORT. The inbound count between two steps of `APP` (R271): the other agents leave the inbound buffer alone or push one byte
to it, which adds one to its count; and the state after power-on (R26, R44, R260); with the statements they settle. -/

namespace Sys2Proof.Machine

/-! ### The inbound count between two steps of `APP` (R271) -/

/-- The inbound buffer of `t` is that of `s`, or that of `s`, not full, after one `push`: all that an agent other than `APP` may do
to it (R62). -/
def State.PushesRx (s t : State) : Prop :=
  t.rx = s.rx ∨ inc s.params.kRx s.rx.head ≠ s.rx.tail ∧ ∃ b, t.rx = s.rx.pushed s.params.kRx b

/-- Only `RX_EVENT` writes the inbound buffer, and only by a `push` with room (R191, R192). -/
theorem exec_irq_pushesRx {i : Instr} {s t : State} (hp : i.port = .irq) (h : exec i s = .next t) : s.PushesRx t := by
  cases i with
  | rxEvent b =>
    obtain ⟨-, rfl⟩ | ⟨-, -, rfl⟩ | ⟨-, hroom, -, rfl⟩ := execRxEvent_next h
    · exact .inl rfl
    · exact .inl rfl
    · exact .inr ⟨hroom, b, rfl⟩
  | txReady =>
    obtain ⟨-, rfl⟩ | ⟨-, -, rfl⟩ | ⟨-, -, v, -, B, -, rfl⟩ | ⟨-, -, -, rfl⟩ := execTxReady_next h <;> exact .inl rfl
  | _ => cases hp

theorem runMove_pushesRx {m : Move} {s t : State} (hm : m ≠ .app) (h : runMove m s = .next t) : s.PushesRx t := by
  cases m with
  | app => exact absurd rfl hm
  | rxEvent b => exact exec_irq_pushesRx (i := .rxEvent b) rfl h
  | txReady => exact exec_irq_pushesRx (i := .txReady) rfl h
  | txDone => cases h; exact .inl rfl

/-- The refusal of a bad configuration and a choice passed over leave the buffer alone as well. -/
theorem step_pushesRx_of_ne_app {s t : State} (hl : s.level = .platform) (hm : s.nextMove ≠ .app)
    (h : step s = .next t) : s.PushesRx t := by
  obtain ⟨-, -, ⟨-, rfl⟩ | ⟨-, -, hp⟩ | ⟨-, hn, -⟩⟩ := step_next h
  · exact .inl rfl
  · obtain ⟨-, hrun⟩ | ⟨-, rfl⟩ := platformStep_next hp
    · exact runMove_pushesRx (s := s.takeMove) hm hrun
    · exact .inl rfl
  · exact absurd hl hn

theorem State.PushesRx.available_le {s t : State} (h : s.PushesRx t) (hB : s.rx.Ok s.params.kRx) :
    s.rx.available s.params.kRx ≤ t.rx.available s.params.kRx := by
  obtain hsame | ⟨hroom, b, hpush⟩ := h
  · rw [hsame]
  · rw [hpush, hB.available_pushed hroom]
    exact Nat.le_succ _

/-- Settles O27: a step that is not `APP`'s pushes to the inbound buffer at most, and the capacity is fixed. -/
theorem countNeverOverstates : Obligations.CountNeverOverstates := by
  intro s t hs hl hm h
  obtain ⟨hparams, -, -⟩ := configurationAndProgramAreFixed s t h
  rw [hparams]
  exact (step_pushesRx_of_ne_app hl hm h).available_le hs.rx_ok

/-! ### The state after power-on (R26, R44, R260) -/

/-- No slot of a constructed buffer has been written (R26). -/
theorem memRead_fresh (i : Nat) : RingBuffer.fresh.memRead i = none := rfl

/-- Settles O16: the three buffers are fresh, and every other field is set to its power-on value. -/
theorem resetIsPowerOn : Obligations.ResetIsPowerOn :=
  ⟨rfl, rfl, rfl, fun i => ⟨memRead_fresh i, memRead_fresh i, memRead_fresh i⟩,
    rfl, rfl, rfl, rfl, rfl, rfl, rfl, rfl, rfl, rfl, rfl, rfl, rfl⟩

end Sys2Proof.Machine
end
